-- ==== Sys2Proof/Word.lean ====
section
/-! DEFINITION. The word types of the engine and their plainest arithmetic (00_scope.md R9). -/

namespace Sys2Proof

/-- One byte of host memory, of the input, the output or the history (R11, R35). -/
abbrev Byte := BitVec 8

/-- The accumulator word, `ACC_W` = 32 bits (R7, R21). -/
abbrev Acc := BitVec 32

/-- A Huffman table entry, 32 bits (R150). -/
abbrev Entry := BitVec 32

/-- One table arena, `ARENA` = 1024 entries (R7, R34). -/
abbrev Table := Vector Entry 1024

end Sys2Proof
end

