-- ==== Sys2Proof/Config.lean ====
section
/-! DEFINITION. The implementation parameters of 00_scope.md R7 and R8, as plain data. -/

namespace Sys2Proof

/-- `P_CLOSED_INPUT`: what an exhausted, closed input does (R7, R140). -/
inductive ClosedInput where
  | suspend
  | error
deriving DecidableEq, Repr

/-- `P_EMPTY_DIST`: a dynamic distance alphabet with no codes (R7, R155). -/
inductive EmptyDist where
  | reject
  | accept
deriving DecidableEq, Repr

/-- The OPEN parameters of R7. `workbuf` is the one constant `P_WB_MIN = P_WB_MAX` (R342). -/
structure Params where
  closedInput : ClosedInput
  emptyDist   : EmptyDist
  fast        : Bool
  fastMinSrc  : Nat
  fastMinDst  : Nat
  addrW       : Nat
  workbuf     : Nat
deriving DecidableEq, Repr

/-- The limits R7 sets on the fast variant's thresholds: at least 6 and 258. -/
abbrev Params.ThresholdsOk (p : Params) : Prop := 6 ≤ p.fastMinSrc ∧ 258 ≤ p.fastMinDst

/-- What R7 and R40 ask of the parameters: the thresholds' limits, and a workbuf constant that `WB_MIN` and `WB_MAX`, which are
`P_ADDR_W` bits wide, can hold. -/
abbrev Params.Valid (p : Params) : Prop := p.ThresholdsOk ∧ p.workbuf < 2 ^ p.addrW

/-- `P_WB_MIN = P_WB_MAX`, at the width the vectors' `P_ADDR_W` gives it: the source gives no number (R342,
91_not_in_source.md), so nothing else is known of it. -/
opaque Config.workbuf : BitVec 32

/-- The parameters at which every vector of 95_test_vectors.md is stated (R8), the thresholds at their least values.
DESIGN CHOICE (log 2): `P_ADDR_W` is open in the spec; 32 here. Every statement holds for every `Params`, not only these. -/
def Params.vectors : Params :=
  { closedInput := .suspend, emptyDist := .reject, fast := false, fastMinSrc := 6, fastMinDst := 258,
    addrW := 32, workbuf := Config.workbuf.toNat }

end Sys2Proof
end

