-- ==== Sys2Proof/Machine/Memory.lean ====
section
/-! DEFINITION. Host memory (20_memory.md R60, R63) as (address, byte) pairs in one canonical form: addresses strictly rising, no
entry equal to what an unlisted address reads as. -/

namespace Sys2Proof.Machine

/-- Host memory. It belongs to the host, which places its buffers where it likes (R74). -/
abbrev Mem := List Host.Cell

/-- What a byte that nothing has written reads as. DESIGN CHOICE, unsafe (log 5): the spec gives host memory no initial contents. -/
def Mem.unlisted : Byte := 0

/-- `MemRead(a, 1)` (00_scope.md R11). -/
def Mem.read : Mem → Nat → Byte
  | [], _ => Mem.unlisted
  | (b, w) :: m, a => if a = b then w else Mem.read m a

/-- A cell in front of the cells above it, left out where it holds what an unlisted address reads as. -/
def Mem.put (a : Nat) (v : Byte) (m : Mem) : Mem := if v = Mem.unlisted then m else (a, v) :: m

/-- `MemWrite(a, 1, v)` (00_scope.md R11), in canonical form. -/
def Mem.write : Mem → Nat → Byte → Mem
  | [], a, v => Mem.put a v []
  | (b, w) :: m, a, v =>
    if a < b then Mem.put a v ((b, w) :: m)
    else if a = b then Mem.put a v m
    else (b, w) :: Mem.write m a v

/-- Bytes written at rising addresses from `a`. -/
def Mem.writeBytes (m : Mem) (a : Nat) : List Byte → Mem
  | [] => m
  | v :: vs => Mem.writeBytes (Mem.write m a v) (a + 1) vs

/-- Canonical, every address at least `lo`. -/
def Mem.wfFrom (lo : Nat) : Mem → Bool
  | [] => true
  | (a, v) :: m => decide (lo ≤ a) && decide (v ≠ Mem.unlisted) && Mem.wfFrom (a + 1) m

/-- The canonical form holds. -/
def Mem.wf (m : Mem) : Bool := Mem.wfFrom 0 m

end Sys2Proof.Machine
end

