-- ==== Sys2Proof/Machine/State.lean ====
section
/-! DEFINITION. The engine's state as plain data: every register, flag, local and array of 10_state.md, host memory, the
configuration, and three bits of the model's own. -/

namespace Sys2Proof.Machine

/-- The resume point (R24). Values 17 to 31 are never written and have no constructor (R26). -/
inductive Fsm where
  | hdr
  | storedLen
  | storedCopy
  | fixedInit
  | dynHdr
  | dynCll
  | dynLensSym
  | dynLensExtra
  | dynBuild
  | llSym
  | litOut
  | lenExtra
  | distSym
  | distExtra
  | copy
  | blockEnd
  | done
deriving DecidableEq, Repr

/-- The status of a command (60_exceptions.md R371). No other value is ever written (R42). -/
inductive Status where
  | ok
  | shortRead
  | shortWrite
  | badBlockType
  | badStoredLen
  | badCodeLengthCounts
  | badCodeLengthRepeat
  | badCodeLengthTotal
  | missingEob
  | huffOver
  | huffUnder
  | badMinCodeLength
  | badHuffmanCode
  | badDistance
  | truncatedInput
  | internalBitCount
  | internalBufferIndices
  | internalHuffmanState
  | disabled
  | interleaved
deriving DecidableEq, Repr

/-- The live locals (R27), each at the width R27 gives it. -/
structure Locals where
  hlit   : BitVec 9
  hdist  : BitVec 6
  hclen  : BitVec 5
  i      : BitVec 9
  repsym : BitVec 5
  lit    : BitVec 8
  lbase  : BitVec 9
  lnx    : BitVec 3
  length : BitVec 9
  dbase  : BitVec 15
  dnx    : BitVec 4
  dist   : BitVec 16
  rem    : BitVec 16
deriving DecidableEq, Repr

/-- The history window: the ring `HIST`, its next position `HIDX`, its fill count `HFILL` (R35). -/
structure Window where
  hist  : Vector Byte 32768
  hidx  : BitVec 15
  hfill : BitVec 16
deriving DecidableEq, Repr

/-- The host interface registers 0 to 12 (R40); `FLAGS`, register 13, is computed (Machine/Flags.lean). Addresses and lengths
have the open width `P_ADDR_W`, so they are numbers, each below `2 ^ par.addrW`: so from reset on, and no host write and no step
changes that (State.PortOk). -/
structure Port where
  cmd       : BitVec 2
  status    : Status
  srcPtr    : Nat
  srcEnd    : Nat
  srcClosed : Bool
  dstPtr    : Nat
  dstEnd    : Nat
  wbPtr     : Nat
  wbLen     : Nat
  hbPtr     : Nat
  hbLen     : Nat
  wbMin     : Nat
  wbMax     : Nat
deriving DecidableEq, Repr

/-- The whole machine. `par` is the configuration (R8), which nothing writes. Three bits are the model's own. `decoding`: a started
DECODE is inside its loop (log 1). `inLoop`: the state FSM names, DYN_CLL or STORED_COPY, has run a pass of its own loop and has
not been left, so no state boundary stands here (log 6). `interleaved`: a `CMD` write came while `BUSY = 1` and is still to be
reported (log 6). -/
structure State where
  par         : Params
  mem         : Mem
  bits        : Acc
  nbits       : BitVec 6
  fsm         : Fsm
  loc         : Locals
  bfinal      : Bool
  btype       : BitVec 2
  eob         : Bool
  disabled    : Bool
  busy        : Bool
  decoding    : Bool
  inLoop      : Bool
  interleaved : Bool
  lens        : Vector (BitVec 4) 320
  tab0        : Table
  tab1        : Table
  win         : Window
  port        : Port
deriving DecidableEq, Repr

/-- Why the machine stops with a fault. -/
inductive Fault where
  /-- An access to host memory at an address at or above `2 ^ P_ADDR_W`, which does not exist (R60). Raised by the reads of
  `Refill`, the stored copier and ADD_HISTORY and by the writes of `Emit`. Safe: the machine stops. -/
  | noSuchAddress
deriving DecidableEq, Repr

/-- Why the model gives an instruction or a host access no meaning. -/
inductive Refusal where
  /-- An instruction with no meaning yet. No arm of exec uses it now. Safe. -/
  | notModelled (mnemonic : String)
  /-- A command issued with operand values R41 calls illegal: "a model refuses it". Raised by DECODE, on its cursors and on an
  overlap of any two ranges, and by ADD_HISTORY, on an overlap of its range with another (log 7). Safe. -/
  | illegalOperands
  /-- A host access while `BUSY = 1` other than a `CMD` write or a read of `FLAGS` (R331, R360, R420 duty 3, log 13). Raised by
  the host port alone, never by a step. Safe. -/
  | hostAccessWhileBusy
  /-- A `CMD` write while `BUSY = 1`: "a model refuses any run in which it happens" (R332). Raised by the host port alone, never
  by a step. Safe. -/
  | interleavedCommand
  /-- A host read or write the access column of R40 does not allow, or a register number above 13. Raised by the host port alone,
  never by a step. Safe. -/
  | noHostAccess
deriving DecidableEq, Repr

/-- What an instruction or a step answers. -/
abbrev Result := Host.Outcome State Fault Refusal

/-- Every local at 0 (R49). -/
def Locals.zero : Locals :=
  { hlit := 0, hdist := 0, hclen := 0, i := 0, repsym := 0, lit := 0, lbase := 0, lnx := 0, length := 0,
    dbase := 0, dnx := 0, dist := 0, rem := 0 }

/-- The engine right after RESET (R49, R413) with configuration `p`. `LENS`, `TAB`, `HIST` and the operand registers have no
value in the spec: 0 here, DESIGN CHOICE (log 3, log 4). -/
def State.resetWith (p : Params) : State :=
  { par := p, mem := [], bits := 0, nbits := 0, fsm := .hdr, loc := Locals.zero,
    bfinal := false, btype := 0, eob := false, disabled := false, busy := false,
    decoding := false, inLoop := false, interleaved := false,
    lens := Vector.replicate 320 0, tab0 := Vector.replicate 1024 0, tab1 := Vector.replicate 1024 0,
    win := { hist := Vector.replicate 32768 0, hidx := 0, hfill := 0 },
    port :=
      { cmd := 0, status := .ok, srcPtr := 0, srcEnd := 0, srcClosed := false, dstPtr := 0, dstEnd := 0,
        wbPtr := 0, wbLen := 0, hbPtr := 0, hbLen := 0, wbMin := 0, wbMax := 0 } }

/-- The machine right after reset, at the vectors' configuration (log 2). -/
def State.reset : State := State.resetWith Params.vectors

end Sys2Proof.Machine
end

