-- ==== Sys2Proof/Machine/Flags.lean ====
section
/-! DEFINITION. The flags (10_state.md section 2), the computed FLAGS register and the numeric codes the host reads (R24, R40,
R371). No arithmetic in the engine sets a carry, overflow, zero or sign flag (R31). -/

namespace Sys2Proof.Machine

/-- The code of a status (R371). -/
def Status.code : Status → BitVec 8
  | .ok => 0x00
  | .shortRead => 0x01
  | .shortWrite => 0x02
  | .badBlockType => 0x10
  | .badStoredLen => 0x11
  | .badCodeLengthCounts => 0x12
  | .badCodeLengthRepeat => 0x13
  | .badCodeLengthTotal => 0x14
  | .missingEob => 0x15
  | .huffOver => 0x16
  | .huffUnder => 0x17
  | .badMinCodeLength => 0x18
  | .badHuffmanCode => 0x19
  | .badDistance => 0x1A
  | .truncatedInput => 0x1B
  | .internalBitCount => 0x20
  | .internalBufferIndices => 0x21
  | .internalHuffmanState => 0x22
  | .disabled => 0x30
  | .interleaved => 0x31

/-- The encoding of a resume point (R24). -/
def Fsm.code : Fsm → BitVec 5
  | .hdr => 0
  | .storedLen => 1
  | .storedCopy => 2
  | .fixedInit => 3
  | .dynHdr => 4
  | .dynCll => 5
  | .dynLensSym => 6
  | .dynLensExtra => 7
  | .dynBuild => 8
  | .llSym => 9
  | .litOut => 10
  | .lenExtra => 11
  | .distSym => 12
  | .distExtra => 13
  | .copy => 14
  | .blockEnd => 15
  | .done => 16

/-- `FLAGS`, host register 13 (R40): bit 0 BUSY, bit 1 DISABLED, bit 2 `FSM = DONE` (R331). -/
def State.flags (s : State) : BitVec 3 :=
  BitVec.ofBool (decide (s.fsm = .done)) ++ BitVec.ofBool s.disabled ++ BitVec.ofBool s.busy

/-- The flags HDR writes from a header: BFINAL, BTYPE, and EOB cleared (R30, R190). -/
def State.latchHeader (s : State) (btype : BitVec 2) (final : Bool) : State :=
  { s with bfinal := final, btype := btype, eob := false }

/-- The flag LL_SYM sets on the end-of-block symbol (R30, R263). -/
def State.setEob (s : State) : State := { s with eob := true }

end Sys2Proof.Machine
end

