-- ==== Sys2Proof/Machine/Operands.lean ====
section
/-! DEFINITION. Operand tables and operand assembly (30_encoding.md sections 2 and 3): the constant arrays of R95, R102, R104 and
R105, and the unsigned additions of R96, R97 and R106. Constants of the engine, not state (R107). -/

namespace Sys2Proof.Machine

/-- `CL_ORDER`: the CL symbol whose length the `i`-th code-length-length gives (R95). -/
def clOrder : List Nat :=
  [16, 17, 18, 0, 8, 7, 9, 6, 10, 5, 11, 4, 12, 3, 13, 2, 14, 1, 15]

/-- `LEN_BASE`, indexed by LL symbol minus 257 (R104). -/
def lenBase : List Nat :=
  [3, 4, 5, 6, 7, 8, 9, 10, 11, 13, 15, 17, 19, 23, 27] ++
  [31, 35, 43, 51, 59, 67, 83, 99, 115, 131, 163, 195, 227, 258]

/-- `LEN_EXTRA`, indexed by LL symbol minus 257 (R104). -/
def lenExtra : List Nat :=
  [0, 0, 0, 0, 0, 0, 0, 0, 1, 1, 1, 1, 2, 2, 2] ++
  [2, 3, 3, 3, 3, 4, 4, 4, 4, 5, 5, 5, 5, 0]

/-- `DIST_BASE`, indexed by D symbol (R105). -/
def distBase : List Nat :=
  [1, 2, 3, 4, 5, 7, 9, 13, 17, 25, 33, 49, 65, 97, 129] ++
  [193, 257, 385, 513, 769, 1025, 1537, 2049, 3073, 4097, 6145, 8193, 12289, 16385, 24577]

/-- `DIST_EXTRA`, indexed by D symbol (R105). -/
def distExtra : List Nat :=
  [0, 0, 0, 0, 1, 1, 2, 2, 3, 3, 4, 4, 5, 5, 6] ++
  [6, 7, 7, 8, 8, 9, 9, 10, 10, 11, 11, 12, 12, 13, 13]

/-- The fixed code's lengths of the LL symbols 0 to 287 (R102). -/
def fixedLL : List Nat :=
  List.replicate 144 8 ++ List.replicate 112 9 ++ List.replicate 24 7 ++ List.replicate 8 8

/-- The fixed code's lengths of the D symbols 0 to 31 (R102). -/
def fixedD : List Nat := List.replicate 32 5

/-- `FIXED_LENS`, the 320 entries `FIXED_INIT` writes (R102, R197). -/
def fixedLens : Vector (BitVec 4) 320 :=
  ⟨((fixedLL ++ fixedD).map (BitVec.ofNat 4)).toArray, by decide +kernel⟩

/-- The extra bits of a CL symbol: 2, 3 and 7 for 16, 17 and 18 (R96, R97). -/
def repeatExtra (sym : Nat) : Nat :=
  if sym = 16 then 2 else if sym = 17 then 3 else if sym = 18 then 7 else 0

/-- The run length of a repeat symbol: its base of R96 plus the extra field (R97). -/
def repeatCount (sym x : Nat) : Nat :=
  if sym = 18 then 11 + x else 3 + x

/-- `HLIT` of the raw field (R94). -/
def hlitOf (v : BitVec 5) : BitVec 9 := v.setWidth 9 + 257

/-- `HDIST` of the raw field (R94). -/
def hdistOf (v : BitVec 5) : BitVec 6 := v.setWidth 6 + 1

/-- `HCLEN` of the raw field (R94). -/
def hclenOf (v : BitVec 4) : BitVec 5 := v.setWidth 5 + 4

/-- `LENGTH = LBASE + x` (R106). -/
def assembleLength (base : BitVec 9) (x : Nat) : BitVec 9 := base + BitVec.ofNat 9 x

/-- `DIST = DBASE + x` (R106). -/
def assembleDist (base : BitVec 15) (x : Nat) : BitVec 16 := base.setWidth 16 + BitVec.ofNat 16 x

end Sys2Proof.Machine
end

