-- ==== Sys2Proof/Machine/Huffman.lean ====
section
/-! DEFINITION. Canonical Huffman codes, the table builder and the table lookup (41_huffman.md), as pure functions of the code
lengths and of a table. `Build` fills the arena slot by slot: each slot holds the entry that R158 to R160 put there. -/

namespace Sys2Proof.Machine

/-- The three alphabets: code-length, literal/length, distance (R152). -/
inductive Alphabet where
  | cl
  | ll
  | d
deriving DecidableEq, Repr

/-! ### Entries (R150) -/

/-- The kinds of a table entry; `other` is a `KIND` value R150 says is never written. -/
inductive Kind where
  | lit
  | base
  | eob
  | redir
  | invalid
  | empty
  | other
deriving DecidableEq, Repr

/-- An entry packed from its four fields (R150). -/
def packEntry (kind payload nx nb : Nat) : Entry :=
  BitVec.ofNat 32 (kind * 2 ^ 24 + payload * 2 ^ 8 + nx * 2 ^ 4 + nb)

/-- `KIND[31:24]` (R150). -/
def entryKind (e : Entry) : Kind :=
  match (e.extractLsb' 24 8).toNat with
  | 0x80 => .lit
  | 0x40 => .base
  | 0x20 => .eob
  | 0x10 => .redir
  | 0x08 => .invalid
  | 0x00 => .empty
  | _ => .other

/-- `PAYLOAD[23:8]` (R150). -/
def entryPayload (e : Entry) : BitVec 16 := e.extractLsb' 8 16

/-- `NX[7:4]` (R150). -/
def entryNX (e : Entry) : BitVec 4 := e.extractLsb' 4 4

/-- `NB[3:0]` (R150). -/
def entryNB (e : Entry) : BitVec 4 := e.extractLsb' 0 4

/-- `make(A, s)` with `NB = nb` (R156). -/
def makeEntry (A : Alphabet) (s nb : Nat) : Entry :=
  match A with
  | .cl => packEntry 0x80 s 0 nb
  | .ll =>
    if s < 256 then packEntry 0x80 s 0 nb
    else if s = 256 then packEntry 0x20 0 0 nb
    else if s < 286 then packEntry 0x40 (lenBase.getD (s - 257) 0) (lenExtra.getD (s - 257) 0) nb
    else packEntry 0x08 0 0 nb
  | .d =>
    if s < 30 then packEntry 0x40 (distBase.getD s 0) (distExtra.getD s 0) nb
    else packEntry 0x08 0 0 nb

/-! ### Canonical codes (R153, R154, R157) -/

/-- `count[L]`, with `count[0] = 0` (R153, R157). -/
def codeCount (lens : List Nat) (L : Nat) : Nat :=
  if L = 0 then 0 else lens.count L

/-- R154's loop over the lengths listed, from the value `left`: the last `left`, or `none` once some length is over-subscribed. -/
def kraftLoop (lens : List Nat) : List Nat → Nat → Option Nat
  | [], left => some left
  | L :: Ls, left => if 2 * left < codeCount lens L then none else kraftLoop lens Ls (2 * left - codeCount lens L)

/-- The code of the first symbol of length `L`: `next_code[L]` before any symbol is assigned (R157). -/
def firstCode (lens : List Nat) : Nat → Nat
  | 0 => 0
  | L + 1 => 2 * (firstCode lens L + codeCount lens L)

/-- The symbols of length `L` in increasing order (R157). -/
def symbolsOf (lens : List Nat) (L : Nat) : List Nat :=
  (lens.zipIdx.filter (fun p => p.1 = L)).map (·.2)

/-- `code(s)`: codes of one length are assigned in increasing symbol order from `firstCode` (R157). -/
def codeOf (lens : List Nat) (s : Nat) : Nat :=
  firstCode lens (lens.getD s 0) + (lens.take s).count (lens.getD s 0)

/-- The symbol whose code has length `L ≥ 1` and value `c`, if there is one. -/
def symbolOf? (lens : List Nat) (L c : Nat) : Option Nat :=
  if firstCode lens L ≤ c then (symbolsOf lens L)[c - firstCode lens L]? else none

/-- `rev_L(c)`: bit `i` of the result is bit `L-1-i` of `c` (R157). -/
def revBits : Nat → Nat → Nat
  | 0, _ => 0
  | L + 1, c => (c % 2) * 2 ^ L + revBits L (c / 2)

/-- The code, among the lengths listed, that the accumulator bits `r` begin with: its length and its symbol (R112, R158). -/
def codeIn (lens : List Nat) (r : Nat) : List Nat → Option (Nat × Nat)
  | [] => none
  | L :: Ls =>
    match symbolOf? lens L (revBits L (r % 2 ^ L)) with
    | some s => some (L, s)
    | none => codeIn lens r Ls

/-- The lengths of the codes the primary table holds (R158). -/
def shortLengths : List Nat := [1, 2, 3, 4, 5, 6, 7, 8, 9]

/-- The lengths of the codes sub-tables hold (R159). -/
def longLengths : List Nat := [10, 11, 12, 13, 14, 15]

/-! ### Sub-tables (R159) -/

/-- One sub-table: the primary slot that redirects to it, its first arena index, its index width. -/
structure SubTable where
  root  : Nat
  off   : Nat
  width : Nat
deriving DecidableEq, Repr

/-- The long codes in increasing (length, code) order, each as its length and its reversed code. -/
def longCodes (lens : List Nat) : List (Nat × Nat) :=
  longLengths.flatMap fun L =>
    (List.range (codeCount lens L)).map fun k => (L, revBits L (firstCode lens L + k))

/-- The width of the sub-table at `root`: its longest code's length minus 9. -/
def rootWidth (codes : List (Nat × Nat)) (root : Nat) : Nat :=
  codes.foldl (fun w p => if p.2 % 512 = root then max w (p.1 - 9) else w) 0

/-- The sub-tables, laid out from arena index `next` up in the order their roots first occur; with the index after the last. -/
def layoutFrom (codes : List (Nat × Nat)) : List (Nat × Nat) → List SubTable → Nat → List SubTable × Nat
  | [], subs, next => (subs, next)
  | p :: ps, subs, next =>
    if subs.any (fun t => t.root = p.2 % 512) then layoutFrom codes ps subs next
    else
      layoutFrom codes ps
        (subs ++ [{ root := p.2 % 512, off := next, width := rootWidth codes (p.2 % 512) }])
        (next + 2 ^ rootWidth codes (p.2 % 512))

/-- The sub-tables of a code and the arena index after the last. -/
def subTables (lens : List Nat) : List SubTable × Nat :=
  layoutFrom (longCodes lens) (longCodes lens) [] 512

/-! ### Build (R152 to R161) -/

/-- The primary slot `i < 512`: the short code its bits begin with (R158), else the redirect of its root (R159), else INVALID with
`NB = 1` (R160). -/
def primaryEntry (A : Alphabet) (lens : List Nat) (subs : List SubTable) (i : Nat) : Entry :=
  match codeIn lens i shortLengths with
  | some (L, s) => makeEntry A s L
  | none =>
    match subs.find? (fun t => t.root = i) with
    | some t => packEntry 0x10 t.off t.width 9
    | none => packEntry 0x08 0 0 1

/-- The sub-table slot `i ≥ 512`: the long code its root and suffix begin with, `NB` its length minus 9 (R159), else EMPTY. -/
def subEntry (A : Alphabet) (lens : List Nat) (subs : List SubTable) (i : Nat) : Entry :=
  match subs.find? (fun t => t.off ≤ i && i < t.off + 2 ^ t.width) with
  | some t =>
    match codeIn lens (t.root + 512 * (i - t.off)) longLengths with
    | some (L, s) => makeEntry A s (L - 9)
    | none => 0
  | none => 0

/-- The entry of arena slot `i`. -/
def slotEntry (A : Alphabet) (lens : List Nat) (subs : List SubTable) (i : Nat) : Entry :=
  if i < 512 then primaryEntry A lens subs i else subEntry A lens subs i

/-- The whole arena of a code (R158 to R160). -/
def tableOf (A : Alphabet) (lens : List Nat) : Table :=
  let subs := (subTables lens).1
  ⟨((List.range 1024).map (slotEntry A lens subs)).toArray, by simp⟩

/-- How `Build` fails (R152); each is raised as the status of the same name. -/
inductive BuildError where
  | over
  | under
  | minLength
  | arena
deriving DecidableEq, Repr

/-- The lengths 1 to 15 that some symbol has. -/
def usedLengths (lens : List Nat) : List Nat :=
  (shortLengths ++ longLengths).filter (fun L => decide (codeCount lens L ≠ 0))

/-- The two under-subscribed D alphabets R155 accepts: a single code of length 1, and, at `P_EMPTY_DIST = ACCEPT`, no code. -/
def acceptsUnder (p : Params) (A : Alphabet) (lens : List Nat) : Bool :=
  A = .d && ((codeCount lens 1 = 1 && usedLengths lens = [1]) || (usedLengths lens = [] && p.emptyDist = .accept))

/-- `Build(A, k, lens)`: the arena, or the error, in R377's order: over-subscribed, under-subscribed, minimum length, arena. -/
def build (p : Params) (A : Alphabet) (lens : List Nat) : Except BuildError Table :=
  match kraftLoop lens (shortLengths ++ longLengths) 1 with
  | none => .error .over
  | some left =>
    if left ≠ 0 ∧ acceptsUnder p A lens = false then .error .under
    else if 9 < (usedLengths lens).headD 1 then .error .minLength
    else if 1024 < (subTables lens).2 then .error .arena
    else .ok (tableOf A lens)

/-! ### Lookup (R162) -/

/-- `TAB[k][i]`. DESIGN CHOICE (log 8): an index past the arena, which no built table gives, reads as EMPTY. -/
def readTable (t : Table) (i : Nat) : Entry := t[i]?.getD 0

/-- `Lookup(k)`: the entry the held bits select, missing bits read as 0, and the stream bits it needs (R162). -/
def lookup (t : Table) (bits : Acc) : Entry × Nat :=
  let e := readTable t (bits.toNat % 512)
  if entryKind e = .redir then
    let e2 := readTable t ((entryPayload e).toNat + bits.toNat / 512 % 2 ^ (entryNX e).toNat)
    (e2, 9 + (entryNB e2).toNat)
  else (e, (entryNB e).toNat)

end Sys2Proof.Machine
end

