-- ==== Sys2Proof/Machine/Ops.lean ====
section
/-! DEFINITION. The shared operations: ending a command and the two traps (60_exceptions.md R373, R375), the bit reader
(40_bit_reader.md), the symbol decoder (41_huffman.md R163), the code-length array, and the history window with the output
primitive (45_history.md R300, R301). -/

namespace Sys2Proof.Machine

/-! ### Ending a command: traps and their return -/

/-- Write the command's status and end it: BUSY cleared (R331), the model's own command bits with it. -/
def State.finish (st : Status) (s : State) : State :=
  { s with busy := false, decoding := false, inLoop := false, interleaved := false, port := { s.port with status := st } }

/-- `suspend S` (R375): nothing but the status and the end of the command; FSM and every local stand as they are. -/
def State.suspend (st : Status) (s : State) : State := s.finish st

/-- `raise E_X` (R373): the error trap. Nothing is saved; every other register stands as at the raise (R374). -/
def State.raise (e : Status) (s : State) : State := { s.finish e with disabled := true }

/-- An interleaved command is due for its report: the engine stands at a state boundary (R332, log 6). -/
def State.reportDue (s : State) : Bool := s.interleaved && !s.inLoop

/-- A pass that ends the command while an interleaved command is owed its report: E_INTERLEAVED stands in for the pass's own status,
on the state the pass left (R332, R377, log 6). -/
def settleOwed (owed : Bool) (o : Result) : Result :=
  match o with
  | .next t => if owed && !t.busy then .next (t.raise .interleaved) else .next t
  | .fault f => .fault f
  | .refused r => .refused r

/-- The return from a suspension (R376): DECODE enters the loop of R341 at the state FSM names, from its top (R13). -/
def State.resume (s : State) : State := { s with decoding := true }

/-- Run `k` on the next state; a fault or a refusal passes through. -/
def andThen (o : Result) (k : State → Result) : Result :=
  match o with
  | .next s => k s
  | .fault f => .fault f
  | .refused r => .refused r

/-- The result of a sub-step that reads a value from the stream: the value and the state after it, or what ended the command. -/
inductive Res (α : Type) where
  | val (a : α) (s : State)
  | stop (o : Result)

/-- Sequence two sub-steps. -/
def Res.bind {α β : Type} (r : Res α) (k : α → State → Res β) : Res β :=
  match r with
  | .val a s => k a s
  | .stop o => .stop o

/-! ### Host memory -/

/-- The address exists: host memory has `2 ^ P_ADDR_W` bytes (R60). DEDUCED (log 12). -/
def State.inSpace (s : State) (a : Nat) : Bool := decide (a < 2 ^ s.par.addrW)

/-! ### Bit reader -/

/-- What a read that finds no input byte does: `E_TRUNCATED_INPUT` when closed and `P_CLOSED_INPUT = ERROR`, else `SHORT_READ`
(R140). -/
def State.inputExhausted (s : State) : State :=
  if s.port.srcClosed = true ∧ s.par.closedInput = .error then s.raise .truncatedInput else s.suspend .shortRead

/-- One input byte entering the accumulator above the held bits, the cursor past it (R131). -/
def State.refilled (s : State) : State :=
  { s with
    bits := s.bits ||| ((s.mem.read s.port.srcPtr).setWidth 32 <<< s.nbits.toNat)
    nbits := s.nbits + 8
    port := { s.port with srcPtr := s.port.srcPtr + 1 } }

/-- `Refill` (R131). -/
def refill (s : State) : Res Unit :=
  if 24 < s.nbits.toNat then .stop (.next (s.raise .internalBitCount))
  else if s.port.srcPtr = s.port.srcEnd then .stop (.next s.inputExhausted)
  else if s.inSpace s.port.srcPtr then .val () s.refilled
  else .stop (.fault .noSuchAddress)

/-- `Ensure(n)`'s loop, at most `k` refills. -/
def ensureLoop : Nat → Nat → State → Res Unit
  | 0, _, s => .val () s
  | k + 1, n, s => if s.nbits.toNat < n then (refill s).bind fun _ s1 => ensureLoop k n s1 else .val () s

/-- `Ensure(n)`, `n ≤ 32` (R132): four refills always suffice. -/
def ensure (n : Nat) (s : State) : Res Unit := ensureLoop 4 n s

/-- The low `n` bits leave the accumulator. -/
def State.consume (n : Nat) (s : State) : State :=
  { s with bits := s.bits >>> n, nbits := s.nbits - BitVec.ofNat 6 n }

/-- `Take(n)`, `n ≤ 32` (R133): the field of the low `n` bits, its first stream bit lowest. -/
def take (n : Nat) (s : State) : Res Acc :=
  (ensure n s).bind fun _ s1 => .val (s1.bits &&& BitVec.ofNat 32 (2 ^ n - 1)) (s1.consume n)

/-- `Align` (R192), then `k`. -/
def align (s : State) (k : State → Result) : Result :=
  if 8 ≤ s.nbits.toNat ∨ s.bits >>> s.nbits.toNat ≠ 0 then .next (s.raise .internalBitCount)
  else k { s with bits := 0, nbits := 0 }

/-- `GiveBack` (R138): whole unconsumed bytes return to the input cursor. -/
def State.giveBack (s : State) : State :=
  let k := s.nbits.toNat / 8
  let n := s.nbits.toNat - 8 * k
  { s with
    bits := s.bits &&& BitVec.ofNat 32 (2 ^ n - 1)
    nbits := BitVec.ofNat 6 n
    port := { s.port with srcPtr := s.port.srcPtr - k } }

/-- The fast variant's refill ahead of need, `k` bytes at most, while the accumulator has room and input remains (R138, R270).
How far is the model's choice (log 11). -/
def readAheadLoop : Nat → State → State
  | 0, s => s
  | k + 1, s =>
    if s.nbits.toNat ≤ 24 ∧ s.port.srcPtr < s.port.srcEnd ∧ s.inSpace s.port.srcPtr = true then readAheadLoop k s.refilled else s

/-- Read ahead until the accumulator is full: four bytes at most. -/
def State.readAhead (s : State) : State := readAheadLoop 4 s

/-- The fast variant may take this token (R270): present, in LL_SYM, and both cursors at or above their thresholds. -/
def State.fastReady (s : State) : Bool :=
  s.par.fast && decide (s.fsm = .llSym) && decide (s.port.srcPtr + s.par.fastMinSrc ≤ s.port.srcEnd) &&
    decide (s.port.dstPtr + s.par.fastMinDst ≤ s.port.dstEnd)

/-! ### Symbol decoder -/

/-- A decoded symbol: its entry, its length, and the code's bits as they stood in the accumulator. -/
structure Symbol where
  entry : Entry
  len   : Nat
  code  : Nat
deriving DecidableEq, Repr

/-- `DecodeSym`'s loop (R163), `k` lookups at most. An entry needs at most 24 bits, so the fourth lookup always finds enough held
and the case of no lookup left is unreachable (R141's check stands there). -/
def decodeSymLoop : Nat → Table → State → Res Symbol
  | 0, _, s => .stop (.next (s.raise .internalBitCount))
  | k + 1, t, s =>
    let (e, L) := lookup t s.bits
    if entryKind e = .empty then .stop (.next (s.raise .internalHuffmanState))
    else if L ≤ s.nbits.toNat then .val { entry := e, len := L, code := s.bits.toNat % 2 ^ L } (s.consume L)
    else (refill s).bind fun _ s1 => decodeSymLoop k t s1

/-- `DecodeSym` with the table `t` (R163). -/
def decodeSym (t : Table) (s : State) : Res Symbol := decodeSymLoop 4 t s

/-! ### Code lengths and tables -/

/-- `LENS[i] <- v`. DESIGN CHOICE (log 8): an index past 319, which no run reaches, writes nothing. -/
def State.setLen (s : State) (i : Nat) (v : BitVec 4) : State := { s with lens := s.lens.setIfInBounds i v }

/-- `LENS[i]`. DESIGN CHOICE (log 8): an index past 319 reads as 0. -/
def State.getLen (s : State) (i : Nat) : BitVec 4 := s.lens[i]?.getD 0

/-- `LENS[i .. i+n-1] <- v`. -/
def State.fillLens (s : State) (i : Nat) (v : BitVec 4) : Nat → State
  | 0 => s
  | n + 1 => (s.setLen i v).fillLens (i + 1) v n

/-- `LENS[a .. a+n-1]` as numbers, the builder's input (R152). -/
def State.lensFrom (s : State) (a n : Nat) : List Nat := ((s.lens.toList.drop a).take n).map BitVec.toNat

/-- The status a failed `Build` raises (R152). -/
def BuildError.status : BuildError → Status
  | .over => .huffOver
  | .under => .huffUnder
  | .minLength => .badMinCodeLength
  | .arena => .internalHuffmanState

/-- `Build(A, 0, lens)` into `TAB[0]`, then `k`. On an error `TAB[0]` keeps what it held: the spec leaves it unspecified (R152). -/
def buildTab0 (A : Alphabet) (lens : List Nat) (s : State) (k : State → Result) : Result :=
  match build s.par A lens with
  | .ok t => k { s with tab0 := t }
  | .error e => .next (s.raise e.status)

/-- `Build(A, 1, lens)` into `TAB[1]`, then `k`. -/
def buildTab1 (A : Alphabet) (lens : List Nat) (s : State) (k : State → Result) : Result :=
  match build s.par A lens with
  | .ok t => k { s with tab1 := t }
  | .error e => .next (s.raise e.status)

/-! ### History and output -/

/-- `HFILL <- min(HFILL + 1, 32768)` (R301, R303). -/
def fillCount (h : BitVec 16) : BitVec 16 := BitVec.ofNat 16 (min (h.toNat + 1) 32768)

/-- One byte appended to the window (R301, R305). `HIDX` is 15 bits, so its increment is modulo 32768. -/
def Window.append (w : Window) (b : Byte) : Window :=
  { hist := w.hist.set w.hidx.toNat b w.hidx.isLt, hidx := w.hidx + 1, hfill := fillCount w.hfill }

/-- `HistAt(d)` (R300). -/
def Window.histAt (w : Window) (d : Nat) : Byte :=
  w.hist[(w.hidx - BitVec.ofNat 15 d).toNat]'(w.hidx - BitVec.ofNat 15 d).isLt

/-- The state after one emitted byte (R301). -/
def State.emitted (s : State) (b : Byte) : State :=
  { s with
    mem := s.mem.write s.port.dstPtr b
    win := s.win.append b
    port := { s.port with dstPtr := s.port.dstPtr + 1 } }

/-- `Emit(b)` (R301); the caller has checked the output space. -/
def emit (b : Byte) (s : State) : Result :=
  if s.inSpace s.port.dstPtr then .next (s.emitted b) else .fault .noSuchAddress

end Sys2Proof.Machine
end

