-- ==== Sys2Proof/Machine/Blocks.lean ====
section
/-! DEFINITION. Block headers, the alignment pad, stored blocks, the fixed initializer and the end of a block (42_blocks.md). -/

namespace Sys2Proof.Machine

/-! ### Shared operations -/

/-- HDR's case BTYPE = 0 after the header bits: `Align`, then the length word (R190, R192). -/
def alignToStored (s : State) : Result := align s fun s1 => .next { s1 with fsm := .storedLen }

/-- `FIXED_INIT` (R197): the static lengths, then both tables. -/
def fixedInit (s : State) : Result :=
  let s1 := { s with lens := fixedLens }
  buildTab0 .ll (s1.lensFrom 0 288) s1 fun s2 =>
    buildTab1 .d (s2.lensFrom 288 32) s2 fun s3 => .next { s3 with fsm := .llSym }

/-- `BLOCK_END` (R198): the end of the stream after a final block, else the next header. -/
def blockEnd (s : State) : Result :=
  if s.bfinal then .next ({ s with fsm := .done }.finish .ok) else .next { s with fsm := .hdr }

/-! ### Meanings -/

/-- BLOCK_STORED (R190, R192). The pad that follows the header in the same state is discarded with it. -/
def execBlockStored (final : Bool) (s : State) : Result := alignToStored (s.latchHeader 0 final)

/-- BLOCK_FIXED (R190). -/
def execBlockFixed (final : Bool) (s : State) : Result := .next { s.latchHeader 1 final with fsm := .fixedInit }

/-- BLOCK_DYNAMIC (R190). -/
def execBlockDynamic (final : Bool) (s : State) : Result := .next { s.latchHeader 2 final with fsm := .dynHdr }

/-- BLOCK_RESERVED (R190): the flags are written on the error path too. -/
def execBlockReserved (final : Bool) (s : State) : Result := .next ((s.latchHeader 3 final).raise .badBlockType)

/-- ALIGN_PAD (R192): the pad's width and value are ignored, every held bit is discarded. -/
def execAlignPad (_width : BitVec 3) (_pad : BitVec 7) (s : State) : Result := alignToStored s

/-- STORED_LEN (R193). -/
def execStoredLen (len nlen : BitVec 16) (s : State) : Result :=
  if len ^^^ nlen ≠ 0xFFFF then .next (s.raise .badStoredLen)
  else .next { s with loc := { s.loc with rem := len }, fsm := .storedCopy }

/-- STORED_BYTE (R195): one pass of STORED_COPY's loop with the byte read. -/
def execStoredByte (b : Byte) (s : State) : Result :=
  if s.port.dstPtr = s.port.dstEnd then .next (s.suspend .shortWrite)
  else andThen (emit b s) fun s1 => .next { s1 with loc := { s1.loc with rem := s1.loc.rem - 1 } }

end Sys2Proof.Machine
end

