-- ==== Sys2Proof/Machine/Commands.lean ====
section
/-! DEFINITION. The four host commands (46_host.md R330, 45_history.md R305, 70_reset_and_hazards.md R411). -/

namespace Sys2Proof.Machine

/-! ### Shared operations -/

/-- The ranges `[a, b)` and `[c, d)` have no address in common; an empty range is legal anywhere (R69). -/
def disjoint (a b c d : Nat) : Bool := decide (b ≤ a) || decide (d ≤ c) || decide (b ≤ c) || decide (d ≤ a)

/-- The ADD_HISTORY range meets neither the input range nor the output range (R41). -/
def State.historyApart (s : State) : Bool :=
  disjoint s.port.hbPtr (s.port.hbPtr + s.port.hbLen) s.port.srcPtr s.port.srcEnd &&
    disjoint s.port.hbPtr (s.port.hbPtr + s.port.hbLen) s.port.dstPtr s.port.dstEnd

/-- The operands of a DECODE are legal (R41, R420 duty 4): both cursors ordered, the three ranges disjoint. -/
def State.legalOperands (s : State) : Bool :=
  decide (s.port.srcPtr ≤ s.port.srcEnd) && decide (s.port.dstPtr ≤ s.port.dstEnd) &&
    disjoint s.port.srcPtr s.port.srcEnd s.port.dstPtr s.port.dstEnd && s.historyApart

/-- One byte appended to the history without output (R305). -/
def State.appended (s : State) (b : Byte) : State := { s with win := s.win.append b }

/-- ADD_HISTORY's loop: `n` bytes from address `a` up (R305). -/
def addBytes : Nat → Nat → State → Result
  | 0, _, s => .next s
  | n + 1, a, s => if s.inSpace a then addBytes n (a + 1) (s.appended (s.mem.read a)) else .fault .noSuchAddress

/-! ### Meanings -/

/-- RESET (R411). The operand registers and host memory stand; `LENS`, `TAB`, `HIST` are unspecified after it, and the model keeps
what they held (log 3). -/
def execReset (s : State) : Result :=
  .next
    ({ s with
        bits := 0, nbits := 0, fsm := .hdr, loc := Locals.zero, bfinal := false, btype := 0, eob := false,
        disabled := false, win := { s.win with hidx := 0, hfill := 0 },
        port := { s.port with wbMin := 0, wbMax := 0 } }.finish .ok)

/-- DECODE (R341): refused on a disabled instance (`E_DISABLED`), `OK` at once on a finished stream (R344), else the loop is
entered at the state FSM names. Each pass of the loop is a step of its own (log 1). Illegal operands are refused where the loop
would be entered (R41, log 7). -/
def execDecode (s : State) : Result :=
  if s.disabled then .next (s.finish .disabled)
  else if s.fsm = .done then .next (s.finish .ok)
  else if s.legalOperands then .next s.resume
  else .refused .illegalOperands

/-- ADD_HISTORY (R305, R343). A range that meets the input or the output range is refused (R41); the order of the two cursors,
which a host may not yet have written, is not asked for (log 7). -/
def execAddHistory (s : State) : Result :=
  if s.disabled then .next (s.finish .disabled)
  else if s.historyApart then andThen (addBytes s.port.hbLen s.port.hbPtr s) fun s1 => .next (s1.finish .ok)
  else .refused .illegalOperands

/-- The workbuf constant as a register of `P_ADDR_W` bits holds it (R40): all of it where the configuration is valid. -/
def State.workbufValue (s : State) : Nat := s.par.workbuf % 2 ^ s.par.addrW

/-- WORKBUF_LEN (R342): the same answer in every state, disabled or not. -/
def execWorkbufLen (s : State) : Result :=
  .next ({ s with port := { s.port with wbMin := s.workbufValue, wbMax := s.workbufValue } }.finish .ok)

end Sys2Proof.Machine
end

