-- ==== Sys2Proof/Machine/Dynamic.lean ====
section
/-! DEFINITION. The dynamic header (43_dynamic.md): count fields, code-length-lengths, code-length symbols and repeats, and the
building of a block's tables. -/

namespace Sys2Proof.Machine

/-! ### Shared operations -/

/-- `HLIT + HDIST`, the number of lengths a dynamic header gives (R224). -/
def State.lensTotal (s : State) : Nat := s.loc.hlit.toNat + s.loc.hdist.toNat

/-- `LENS[CL_ORDER[j]] <- 0` for the untransmitted `j` (R222). -/
def State.clearTail (s : State) : List Nat → State
  | [] => s
  | k :: ks => (s.setLen k 0).clearTail ks

/-- The end of DYN_CLL: the CL table is built once `HCLEN` lengths are read (R222, R223), and the state is left. -/
def cllDone (s : State) : Result :=
  let s1 := s.clearTail (clOrder.drop s.loc.hclen.toNat)
  buildTab0 .cl (s1.lensFrom 0 19) s1 fun s2 => .next { s2 with loc := { s2.loc with i := 0 }, fsm := .dynLensSym, inLoop := false }

/-- A CL symbol below 16: the next length (R224). -/
def codeLength (n : BitVec 4) (s : State) : Result :=
  let s1 := s.setLen s.loc.i.toNat n
  .next { s1 with loc := { s1.loc with i := s1.loc.i + 1 } }

/-- DYN_LENS_EXTRA once its extra field `x` is read: the run REPSYM gives (R226), refused past the total (R227). -/
def applyRepeat (x : Nat) (s : State) : Result :=
  let cnt := repeatCount s.loc.repsym.toNat x
  let v := if s.loc.repsym = 16 then s.getLen (s.loc.i.toNat - 1) else 0
  if s.lensTotal < s.loc.i.toNat + cnt then .next (s.raise .badCodeLengthTotal)
  else
    let s1 := s.fillLens s.loc.i.toNat v cnt
    .next { s1 with loc := { s1.loc with i := s1.loc.i + BitVec.ofNat 9 cnt }, fsm := .dynLensSym }

/-- The latch of a repeat symbol (R224). -/
def State.latchRepeat (s : State) (sym : BitVec 5) : State :=
  { s with loc := { s.loc with repsym := sym }, fsm := .dynLensExtra }

/-- `DYN_BUILD` (R229): the end-of-block check, the LL build, the D build, in that order (R377). -/
def dynBuild (s : State) : Result :=
  if s.getLen 256 = 0 then .next (s.raise .missingEob)
  else
    buildTab0 .ll (s.lensFrom 0 s.loc.hlit.toNat) s fun s1 =>
      buildTab1 .d (s1.lensFrom s1.loc.hlit.toNat s1.loc.hdist.toNat) s1 fun s2 => .next { s2 with fsm := .llSym }

/-! ### Meanings -/

/-- DYN_HDR (R221): the fields are written before the range check. -/
def execDynHdr (hlit hdist : BitVec 5) (hclen : BitVec 4) (s : State) : Result :=
  let s1 := { s with loc := { s.loc with hlit := hlitOf hlit, hdist := hdistOf hdist, hclen := hclenOf hclen } }
  if 286 < (hlitOf hlit).toNat ∨ 30 < (hdistOf hdist).toNat then .next (s1.raise .badCodeLengthCounts)
  else .next { s1 with loc := { s1.loc with i := 0 }, fsm := .dynCll }

/-- CLL (R222): one pass of DYN_CLL's loop. -/
def execCll (l : BitVec 3) (s : State) : Result :=
  let s1 := s.setLen (clOrder.getD s.loc.i.toNat 320) (l.setWidth 4)
  .next { s1 with loc := { s1.loc with i := s1.loc.i + 1 } }

/-- CL_LEN_0 (R224). -/
def execClLen0 (s : State) : Result := codeLength 0 s

/-- CL_LEN_1 (R224). -/
def execClLen1 (s : State) : Result := codeLength 1 s

/-- CL_LEN_2 (R224). -/
def execClLen2 (s : State) : Result := codeLength 2 s

/-- CL_LEN_3 (R224). -/
def execClLen3 (s : State) : Result := codeLength 3 s

/-- CL_LEN_4 (R224). -/
def execClLen4 (s : State) : Result := codeLength 4 s

/-- CL_LEN_5 (R224). -/
def execClLen5 (s : State) : Result := codeLength 5 s

/-- CL_LEN_6 (R224). -/
def execClLen6 (s : State) : Result := codeLength 6 s

/-- CL_LEN_7 (R224). -/
def execClLen7 (s : State) : Result := codeLength 7 s

/-- CL_LEN_8 (R224). -/
def execClLen8 (s : State) : Result := codeLength 8 s

/-- CL_LEN_9 (R224). -/
def execClLen9 (s : State) : Result := codeLength 9 s

/-- CL_LEN_10 (R224). -/
def execClLen10 (s : State) : Result := codeLength 10 s

/-- CL_LEN_11 (R224). -/
def execClLen11 (s : State) : Result := codeLength 11 s

/-- CL_LEN_12 (R224). -/
def execClLen12 (s : State) : Result := codeLength 12 s

/-- CL_LEN_13 (R224). -/
def execClLen13 (s : State) : Result := codeLength 13 s

/-- CL_LEN_14 (R224). -/
def execClLen14 (s : State) : Result := codeLength 14 s

/-- CL_LEN_15 (R224). -/
def execClLen15 (s : State) : Result := codeLength 15 s

/-- CL_REP_PREV (R224 to R227): no predecessor is reported before the extra bits count (R225). -/
def execClRepPrev (x : BitVec 2) (s : State) : Result :=
  if s.loc.i = 0 then .next (s.raise .badCodeLengthRepeat) else applyRepeat x.toNat (s.latchRepeat 16)

/-- CL_REP_Z3 (R226, R227). -/
def execClRepZ3 (x : BitVec 3) (s : State) : Result := applyRepeat x.toNat (s.latchRepeat 17)

/-- CL_REP_Z11 (R226, R227). -/
def execClRepZ11 (x : BitVec 7) (s : State) : Result := applyRepeat x.toNat (s.latchRepeat 18)

end Sys2Proof.Machine
end

