-- ==== Sys2Proof/Machine/SymbolOps.lean ====
section
/-! DEFINITION. The operations the symbols of a Huffman block share (44_symbols.md) and the back-reference copy (45_history.md
R302). -/

namespace Sys2Proof.Machine

/-- `LIT_OUT` (R262). -/
def litOut (s : State) : Result :=
  if s.port.dstPtr = s.port.dstEnd then .next (s.suspend .shortWrite)
  else andThen (emit s.loc.lit s) fun s1 => .next { s1 with fsm := .llSym }

/-- A literal symbol (R261): latched, then LIT_OUT, which a full output suspends (R262). -/
def literal (b : Byte) (s : State) : Result := litOut { s with loc := { s.loc with lit := b }, fsm := .litOut }

/-- The end-of-block symbol (R263). -/
def endOfBlock (s : State) : Result := .next { s.setEob with fsm := .blockEnd }

/-- A symbol whose entry is INVALID (R261, R265): its bits are consumed, FSM stands. -/
def badCode (s : State) : Result := .next (s.raise .badHuffmanCode)

/-- The latch of a length symbol (R261). -/
def State.latchLen (s : State) (base : BitVec 9) (nx : BitVec 3) : State :=
  { s with loc := { s.loc with lbase := base, lnx := nx }, fsm := .lenExtra }

/-- `LEN_EXTRA` once its extra field `x` is read (R264). -/
def finishLength (x : Nat) (s : State) : Result :=
  .next { s with loc := { s.loc with length := assembleLength s.loc.lbase x }, fsm := .distSym }

/-- A length symbol with its extra field (R261, R264). -/
def lengthSymbol (base : BitVec 9) (nx : BitVec 3) (x : Nat) (s : State) : Result := finishLength x (s.latchLen base nx)

/-- One byte copied and counted (R302). -/
def State.copied (s : State) : State :=
  let s1 := s.emitted (s.win.histAt s.loc.dist.toNat)
  { s1 with loc := { s1.loc with rem := s1.loc.rem - 1 } }

/-- `COPY`'s loop with `n` bytes left (R302). -/
def copyLoop : Nat → State → Result
  | 0, s => .next { s with fsm := .llSym }
  | n + 1, s =>
    if s.port.dstPtr = s.port.dstEnd then .next (s.suspend .shortWrite)
    else if s.inSpace s.port.dstPtr then copyLoop n s.copied
    else .fault .noSuchAddress

/-- `COPY` (R302). -/
def copyRun (s : State) : Result := copyLoop s.loc.rem.toNat s

/-- The latch of a distance symbol (R265). -/
def State.latchDist (s : State) (base : BitVec 15) (nx : BitVec 4) : State :=
  { s with loc := { s.loc with dbase := base, dnx := nx }, fsm := .distExtra }

/-- `DIST_EXTRA` once its extra field `x` is read (R266): the distance check, then the copy. -/
def finishDist (x : Nat) (s : State) : Result :=
  let d := assembleDist s.loc.dbase x
  let s1 := { s with loc := { s.loc with dist := d } }
  if d = 0 ∨ s.win.hfill.toNat < d.toNat then .next (s1.raise .badDistance)
  else copyRun { s1 with loc := { s1.loc with rem := s1.loc.length.setWidth 16 }, fsm := .copy }

/-- A distance symbol with its extra field, and the copy of the match (R265, R266, R302). -/
def distSymbol (base : BitVec 15) (nx : BitVec 4) (x : Nat) (s : State) : Result := finishDist x (s.latchDist base nx)

end Sys2Proof.Machine
end

