-- ==== Sys2Proof/Machine/Symbols.lean ====
section
/-! DEFINITION. The meanings of the literal/length and distance symbols (44_symbols.md), one per row of the opcode table. -/

namespace Sys2Proof.Machine

/-- LIT_0 (R261, R262). -/
def execLit0 (s : State) : Result := literal 0 s

/-- LIT_1 (R261, R262). -/
def execLit1 (s : State) : Result := literal 1 s

/-- LIT_2 (R261, R262). -/
def execLit2 (s : State) : Result := literal 2 s

/-- LIT_3 (R261, R262). -/
def execLit3 (s : State) : Result := literal 3 s

/-- LIT_4 (R261, R262). -/
def execLit4 (s : State) : Result := literal 4 s

/-- LIT_5 (R261, R262). -/
def execLit5 (s : State) : Result := literal 5 s

/-- LIT_6 (R261, R262). -/
def execLit6 (s : State) : Result := literal 6 s

/-- LIT_7 (R261, R262). -/
def execLit7 (s : State) : Result := literal 7 s

/-- LIT_8 (R261, R262). -/
def execLit8 (s : State) : Result := literal 8 s

/-- LIT_9 (R261, R262). -/
def execLit9 (s : State) : Result := literal 9 s

/-- LIT_10 (R261, R262). -/
def execLit10 (s : State) : Result := literal 10 s

/-- LIT_11 (R261, R262). -/
def execLit11 (s : State) : Result := literal 11 s

/-- LIT_12 (R261, R262). -/
def execLit12 (s : State) : Result := literal 12 s

/-- LIT_13 (R261, R262). -/
def execLit13 (s : State) : Result := literal 13 s

/-- LIT_14 (R261, R262). -/
def execLit14 (s : State) : Result := literal 14 s

/-- LIT_15 (R261, R262). -/
def execLit15 (s : State) : Result := literal 15 s

/-- LIT_16 (R261, R262). -/
def execLit16 (s : State) : Result := literal 16 s

/-- LIT_17 (R261, R262). -/
def execLit17 (s : State) : Result := literal 17 s

/-- LIT_18 (R261, R262). -/
def execLit18 (s : State) : Result := literal 18 s

/-- LIT_19 (R261, R262). -/
def execLit19 (s : State) : Result := literal 19 s

/-- LIT_20 (R261, R262). -/
def execLit20 (s : State) : Result := literal 20 s

/-- LIT_21 (R261, R262). -/
def execLit21 (s : State) : Result := literal 21 s

/-- LIT_22 (R261, R262). -/
def execLit22 (s : State) : Result := literal 22 s

/-- LIT_23 (R261, R262). -/
def execLit23 (s : State) : Result := literal 23 s

/-- LIT_24 (R261, R262). -/
def execLit24 (s : State) : Result := literal 24 s

/-- LIT_25 (R261, R262). -/
def execLit25 (s : State) : Result := literal 25 s

/-- LIT_26 (R261, R262). -/
def execLit26 (s : State) : Result := literal 26 s

/-- LIT_27 (R261, R262). -/
def execLit27 (s : State) : Result := literal 27 s

/-- LIT_28 (R261, R262). -/
def execLit28 (s : State) : Result := literal 28 s

/-- LIT_29 (R261, R262). -/
def execLit29 (s : State) : Result := literal 29 s

/-- LIT_30 (R261, R262). -/
def execLit30 (s : State) : Result := literal 30 s

/-- LIT_31 (R261, R262). -/
def execLit31 (s : State) : Result := literal 31 s

/-- LIT_32 (R261, R262). -/
def execLit32 (s : State) : Result := literal 32 s

/-- LIT_33 (R261, R262). -/
def execLit33 (s : State) : Result := literal 33 s

/-- LIT_34 (R261, R262). -/
def execLit34 (s : State) : Result := literal 34 s

/-- LIT_35 (R261, R262). -/
def execLit35 (s : State) : Result := literal 35 s

/-- LIT_36 (R261, R262). -/
def execLit36 (s : State) : Result := literal 36 s

/-- LIT_37 (R261, R262). -/
def execLit37 (s : State) : Result := literal 37 s

/-- LIT_38 (R261, R262). -/
def execLit38 (s : State) : Result := literal 38 s

/-- LIT_39 (R261, R262). -/
def execLit39 (s : State) : Result := literal 39 s

/-- LIT_40 (R261, R262). -/
def execLit40 (s : State) : Result := literal 40 s

/-- LIT_41 (R261, R262). -/
def execLit41 (s : State) : Result := literal 41 s

/-- LIT_42 (R261, R262). -/
def execLit42 (s : State) : Result := literal 42 s

/-- LIT_43 (R261, R262). -/
def execLit43 (s : State) : Result := literal 43 s

/-- LIT_44 (R261, R262). -/
def execLit44 (s : State) : Result := literal 44 s

/-- LIT_45 (R261, R262). -/
def execLit45 (s : State) : Result := literal 45 s

/-- LIT_46 (R261, R262). -/
def execLit46 (s : State) : Result := literal 46 s

/-- LIT_47 (R261, R262). -/
def execLit47 (s : State) : Result := literal 47 s

/-- LIT_48 (R261, R262). -/
def execLit48 (s : State) : Result := literal 48 s

/-- LIT_49 (R261, R262). -/
def execLit49 (s : State) : Result := literal 49 s

/-- LIT_50 (R261, R262). -/
def execLit50 (s : State) : Result := literal 50 s

/-- LIT_51 (R261, R262). -/
def execLit51 (s : State) : Result := literal 51 s

/-- LIT_52 (R261, R262). -/
def execLit52 (s : State) : Result := literal 52 s

/-- LIT_53 (R261, R262). -/
def execLit53 (s : State) : Result := literal 53 s

/-- LIT_54 (R261, R262). -/
def execLit54 (s : State) : Result := literal 54 s

/-- LIT_55 (R261, R262). -/
def execLit55 (s : State) : Result := literal 55 s

/-- LIT_56 (R261, R262). -/
def execLit56 (s : State) : Result := literal 56 s

/-- LIT_57 (R261, R262). -/
def execLit57 (s : State) : Result := literal 57 s

/-- LIT_58 (R261, R262). -/
def execLit58 (s : State) : Result := literal 58 s

/-- LIT_59 (R261, R262). -/
def execLit59 (s : State) : Result := literal 59 s

/-- LIT_60 (R261, R262). -/
def execLit60 (s : State) : Result := literal 60 s

/-- LIT_61 (R261, R262). -/
def execLit61 (s : State) : Result := literal 61 s

/-- LIT_62 (R261, R262). -/
def execLit62 (s : State) : Result := literal 62 s

/-- LIT_63 (R261, R262). -/
def execLit63 (s : State) : Result := literal 63 s

/-- LIT_64 (R261, R262). -/
def execLit64 (s : State) : Result := literal 64 s

/-- LIT_65 (R261, R262). -/
def execLit65 (s : State) : Result := literal 65 s

/-- LIT_66 (R261, R262). -/
def execLit66 (s : State) : Result := literal 66 s

/-- LIT_67 (R261, R262). -/
def execLit67 (s : State) : Result := literal 67 s

/-- LIT_68 (R261, R262). -/
def execLit68 (s : State) : Result := literal 68 s

/-- LIT_69 (R261, R262). -/
def execLit69 (s : State) : Result := literal 69 s

/-- LIT_70 (R261, R262). -/
def execLit70 (s : State) : Result := literal 70 s

/-- LIT_71 (R261, R262). -/
def execLit71 (s : State) : Result := literal 71 s

/-- LIT_72 (R261, R262). -/
def execLit72 (s : State) : Result := literal 72 s

/-- LIT_73 (R261, R262). -/
def execLit73 (s : State) : Result := literal 73 s

/-- LIT_74 (R261, R262). -/
def execLit74 (s : State) : Result := literal 74 s

/-- LIT_75 (R261, R262). -/
def execLit75 (s : State) : Result := literal 75 s

/-- LIT_76 (R261, R262). -/
def execLit76 (s : State) : Result := literal 76 s

/-- LIT_77 (R261, R262). -/
def execLit77 (s : State) : Result := literal 77 s

/-- LIT_78 (R261, R262). -/
def execLit78 (s : State) : Result := literal 78 s

/-- LIT_79 (R261, R262). -/
def execLit79 (s : State) : Result := literal 79 s

/-- LIT_80 (R261, R262). -/
def execLit80 (s : State) : Result := literal 80 s

/-- LIT_81 (R261, R262). -/
def execLit81 (s : State) : Result := literal 81 s

/-- LIT_82 (R261, R262). -/
def execLit82 (s : State) : Result := literal 82 s

/-- LIT_83 (R261, R262). -/
def execLit83 (s : State) : Result := literal 83 s

/-- LIT_84 (R261, R262). -/
def execLit84 (s : State) : Result := literal 84 s

/-- LIT_85 (R261, R262). -/
def execLit85 (s : State) : Result := literal 85 s

/-- LIT_86 (R261, R262). -/
def execLit86 (s : State) : Result := literal 86 s

/-- LIT_87 (R261, R262). -/
def execLit87 (s : State) : Result := literal 87 s

/-- LIT_88 (R261, R262). -/
def execLit88 (s : State) : Result := literal 88 s

/-- LIT_89 (R261, R262). -/
def execLit89 (s : State) : Result := literal 89 s

/-- LIT_90 (R261, R262). -/
def execLit90 (s : State) : Result := literal 90 s

/-- LIT_91 (R261, R262). -/
def execLit91 (s : State) : Result := literal 91 s

/-- LIT_92 (R261, R262). -/
def execLit92 (s : State) : Result := literal 92 s

/-- LIT_93 (R261, R262). -/
def execLit93 (s : State) : Result := literal 93 s

/-- LIT_94 (R261, R262). -/
def execLit94 (s : State) : Result := literal 94 s

/-- LIT_95 (R261, R262). -/
def execLit95 (s : State) : Result := literal 95 s

/-- LIT_96 (R261, R262). -/
def execLit96 (s : State) : Result := literal 96 s

/-- LIT_97 (R261, R262). -/
def execLit97 (s : State) : Result := literal 97 s

/-- LIT_98 (R261, R262). -/
def execLit98 (s : State) : Result := literal 98 s

/-- LIT_99 (R261, R262). -/
def execLit99 (s : State) : Result := literal 99 s

/-- LIT_100 (R261, R262). -/
def execLit100 (s : State) : Result := literal 100 s

/-- LIT_101 (R261, R262). -/
def execLit101 (s : State) : Result := literal 101 s

/-- LIT_102 (R261, R262). -/
def execLit102 (s : State) : Result := literal 102 s

/-- LIT_103 (R261, R262). -/
def execLit103 (s : State) : Result := literal 103 s

/-- LIT_104 (R261, R262). -/
def execLit104 (s : State) : Result := literal 104 s

/-- LIT_105 (R261, R262). -/
def execLit105 (s : State) : Result := literal 105 s

/-- LIT_106 (R261, R262). -/
def execLit106 (s : State) : Result := literal 106 s

/-- LIT_107 (R261, R262). -/
def execLit107 (s : State) : Result := literal 107 s

/-- LIT_108 (R261, R262). -/
def execLit108 (s : State) : Result := literal 108 s

/-- LIT_109 (R261, R262). -/
def execLit109 (s : State) : Result := literal 109 s

/-- LIT_110 (R261, R262). -/
def execLit110 (s : State) : Result := literal 110 s

/-- LIT_111 (R261, R262). -/
def execLit111 (s : State) : Result := literal 111 s

/-- LIT_112 (R261, R262). -/
def execLit112 (s : State) : Result := literal 112 s

/-- LIT_113 (R261, R262). -/
def execLit113 (s : State) : Result := literal 113 s

/-- LIT_114 (R261, R262). -/
def execLit114 (s : State) : Result := literal 114 s

/-- LIT_115 (R261, R262). -/
def execLit115 (s : State) : Result := literal 115 s

/-- LIT_116 (R261, R262). -/
def execLit116 (s : State) : Result := literal 116 s

/-- LIT_117 (R261, R262). -/
def execLit117 (s : State) : Result := literal 117 s

/-- LIT_118 (R261, R262). -/
def execLit118 (s : State) : Result := literal 118 s

/-- LIT_119 (R261, R262). -/
def execLit119 (s : State) : Result := literal 119 s

/-- LIT_120 (R261, R262). -/
def execLit120 (s : State) : Result := literal 120 s

/-- LIT_121 (R261, R262). -/
def execLit121 (s : State) : Result := literal 121 s

/-- LIT_122 (R261, R262). -/
def execLit122 (s : State) : Result := literal 122 s

/-- LIT_123 (R261, R262). -/
def execLit123 (s : State) : Result := literal 123 s

/-- LIT_124 (R261, R262). -/
def execLit124 (s : State) : Result := literal 124 s

/-- LIT_125 (R261, R262). -/
def execLit125 (s : State) : Result := literal 125 s

/-- LIT_126 (R261, R262). -/
def execLit126 (s : State) : Result := literal 126 s

/-- LIT_127 (R261, R262). -/
def execLit127 (s : State) : Result := literal 127 s

/-- LIT_128 (R261, R262). -/
def execLit128 (s : State) : Result := literal 128 s

/-- LIT_129 (R261, R262). -/
def execLit129 (s : State) : Result := literal 129 s

/-- LIT_130 (R261, R262). -/
def execLit130 (s : State) : Result := literal 130 s

/-- LIT_131 (R261, R262). -/
def execLit131 (s : State) : Result := literal 131 s

/-- LIT_132 (R261, R262). -/
def execLit132 (s : State) : Result := literal 132 s

/-- LIT_133 (R261, R262). -/
def execLit133 (s : State) : Result := literal 133 s

/-- LIT_134 (R261, R262). -/
def execLit134 (s : State) : Result := literal 134 s

/-- LIT_135 (R261, R262). -/
def execLit135 (s : State) : Result := literal 135 s

/-- LIT_136 (R261, R262). -/
def execLit136 (s : State) : Result := literal 136 s

/-- LIT_137 (R261, R262). -/
def execLit137 (s : State) : Result := literal 137 s

/-- LIT_138 (R261, R262). -/
def execLit138 (s : State) : Result := literal 138 s

/-- LIT_139 (R261, R262). -/
def execLit139 (s : State) : Result := literal 139 s

/-- LIT_140 (R261, R262). -/
def execLit140 (s : State) : Result := literal 140 s

/-- LIT_141 (R261, R262). -/
def execLit141 (s : State) : Result := literal 141 s

/-- LIT_142 (R261, R262). -/
def execLit142 (s : State) : Result := literal 142 s

/-- LIT_143 (R261, R262). -/
def execLit143 (s : State) : Result := literal 143 s

/-- LIT_144 (R261, R262). -/
def execLit144 (s : State) : Result := literal 144 s

/-- LIT_145 (R261, R262). -/
def execLit145 (s : State) : Result := literal 145 s

/-- LIT_146 (R261, R262). -/
def execLit146 (s : State) : Result := literal 146 s

/-- LIT_147 (R261, R262). -/
def execLit147 (s : State) : Result := literal 147 s

/-- LIT_148 (R261, R262). -/
def execLit148 (s : State) : Result := literal 148 s

/-- LIT_149 (R261, R262). -/
def execLit149 (s : State) : Result := literal 149 s

/-- LIT_150 (R261, R262). -/
def execLit150 (s : State) : Result := literal 150 s

/-- LIT_151 (R261, R262). -/
def execLit151 (s : State) : Result := literal 151 s

/-- LIT_152 (R261, R262). -/
def execLit152 (s : State) : Result := literal 152 s

/-- LIT_153 (R261, R262). -/
def execLit153 (s : State) : Result := literal 153 s

/-- LIT_154 (R261, R262). -/
def execLit154 (s : State) : Result := literal 154 s

/-- LIT_155 (R261, R262). -/
def execLit155 (s : State) : Result := literal 155 s

/-- LIT_156 (R261, R262). -/
def execLit156 (s : State) : Result := literal 156 s

/-- LIT_157 (R261, R262). -/
def execLit157 (s : State) : Result := literal 157 s

/-- LIT_158 (R261, R262). -/
def execLit158 (s : State) : Result := literal 158 s

/-- LIT_159 (R261, R262). -/
def execLit159 (s : State) : Result := literal 159 s

/-- LIT_160 (R261, R262). -/
def execLit160 (s : State) : Result := literal 160 s

/-- LIT_161 (R261, R262). -/
def execLit161 (s : State) : Result := literal 161 s

/-- LIT_162 (R261, R262). -/
def execLit162 (s : State) : Result := literal 162 s

/-- LIT_163 (R261, R262). -/
def execLit163 (s : State) : Result := literal 163 s

/-- LIT_164 (R261, R262). -/
def execLit164 (s : State) : Result := literal 164 s

/-- LIT_165 (R261, R262). -/
def execLit165 (s : State) : Result := literal 165 s

/-- LIT_166 (R261, R262). -/
def execLit166 (s : State) : Result := literal 166 s

/-- LIT_167 (R261, R262). -/
def execLit167 (s : State) : Result := literal 167 s

/-- LIT_168 (R261, R262). -/
def execLit168 (s : State) : Result := literal 168 s

/-- LIT_169 (R261, R262). -/
def execLit169 (s : State) : Result := literal 169 s

/-- LIT_170 (R261, R262). -/
def execLit170 (s : State) : Result := literal 170 s

/-- LIT_171 (R261, R262). -/
def execLit171 (s : State) : Result := literal 171 s

/-- LIT_172 (R261, R262). -/
def execLit172 (s : State) : Result := literal 172 s

/-- LIT_173 (R261, R262). -/
def execLit173 (s : State) : Result := literal 173 s

/-- LIT_174 (R261, R262). -/
def execLit174 (s : State) : Result := literal 174 s

/-- LIT_175 (R261, R262). -/
def execLit175 (s : State) : Result := literal 175 s

/-- LIT_176 (R261, R262). -/
def execLit176 (s : State) : Result := literal 176 s

/-- LIT_177 (R261, R262). -/
def execLit177 (s : State) : Result := literal 177 s

/-- LIT_178 (R261, R262). -/
def execLit178 (s : State) : Result := literal 178 s

/-- LIT_179 (R261, R262). -/
def execLit179 (s : State) : Result := literal 179 s

/-- LIT_180 (R261, R262). -/
def execLit180 (s : State) : Result := literal 180 s

/-- LIT_181 (R261, R262). -/
def execLit181 (s : State) : Result := literal 181 s

/-- LIT_182 (R261, R262). -/
def execLit182 (s : State) : Result := literal 182 s

/-- LIT_183 (R261, R262). -/
def execLit183 (s : State) : Result := literal 183 s

/-- LIT_184 (R261, R262). -/
def execLit184 (s : State) : Result := literal 184 s

/-- LIT_185 (R261, R262). -/
def execLit185 (s : State) : Result := literal 185 s

/-- LIT_186 (R261, R262). -/
def execLit186 (s : State) : Result := literal 186 s

/-- LIT_187 (R261, R262). -/
def execLit187 (s : State) : Result := literal 187 s

/-- LIT_188 (R261, R262). -/
def execLit188 (s : State) : Result := literal 188 s

/-- LIT_189 (R261, R262). -/
def execLit189 (s : State) : Result := literal 189 s

/-- LIT_190 (R261, R262). -/
def execLit190 (s : State) : Result := literal 190 s

/-- LIT_191 (R261, R262). -/
def execLit191 (s : State) : Result := literal 191 s

/-- LIT_192 (R261, R262). -/
def execLit192 (s : State) : Result := literal 192 s

/-- LIT_193 (R261, R262). -/
def execLit193 (s : State) : Result := literal 193 s

/-- LIT_194 (R261, R262). -/
def execLit194 (s : State) : Result := literal 194 s

/-- LIT_195 (R261, R262). -/
def execLit195 (s : State) : Result := literal 195 s

/-- LIT_196 (R261, R262). -/
def execLit196 (s : State) : Result := literal 196 s

/-- LIT_197 (R261, R262). -/
def execLit197 (s : State) : Result := literal 197 s

/-- LIT_198 (R261, R262). -/
def execLit198 (s : State) : Result := literal 198 s

/-- LIT_199 (R261, R262). -/
def execLit199 (s : State) : Result := literal 199 s

/-- LIT_200 (R261, R262). -/
def execLit200 (s : State) : Result := literal 200 s

/-- LIT_201 (R261, R262). -/
def execLit201 (s : State) : Result := literal 201 s

/-- LIT_202 (R261, R262). -/
def execLit202 (s : State) : Result := literal 202 s

/-- LIT_203 (R261, R262). -/
def execLit203 (s : State) : Result := literal 203 s

/-- LIT_204 (R261, R262). -/
def execLit204 (s : State) : Result := literal 204 s

/-- LIT_205 (R261, R262). -/
def execLit205 (s : State) : Result := literal 205 s

/-- LIT_206 (R261, R262). -/
def execLit206 (s : State) : Result := literal 206 s

/-- LIT_207 (R261, R262). -/
def execLit207 (s : State) : Result := literal 207 s

/-- LIT_208 (R261, R262). -/
def execLit208 (s : State) : Result := literal 208 s

/-- LIT_209 (R261, R262). -/
def execLit209 (s : State) : Result := literal 209 s

/-- LIT_210 (R261, R262). -/
def execLit210 (s : State) : Result := literal 210 s

/-- LIT_211 (R261, R262). -/
def execLit211 (s : State) : Result := literal 211 s

/-- LIT_212 (R261, R262). -/
def execLit212 (s : State) : Result := literal 212 s

/-- LIT_213 (R261, R262). -/
def execLit213 (s : State) : Result := literal 213 s

/-- LIT_214 (R261, R262). -/
def execLit214 (s : State) : Result := literal 214 s

/-- LIT_215 (R261, R262). -/
def execLit215 (s : State) : Result := literal 215 s

/-- LIT_216 (R261, R262). -/
def execLit216 (s : State) : Result := literal 216 s

/-- LIT_217 (R261, R262). -/
def execLit217 (s : State) : Result := literal 217 s

/-- LIT_218 (R261, R262). -/
def execLit218 (s : State) : Result := literal 218 s

/-- LIT_219 (R261, R262). -/
def execLit219 (s : State) : Result := literal 219 s

/-- LIT_220 (R261, R262). -/
def execLit220 (s : State) : Result := literal 220 s

/-- LIT_221 (R261, R262). -/
def execLit221 (s : State) : Result := literal 221 s

/-- LIT_222 (R261, R262). -/
def execLit222 (s : State) : Result := literal 222 s

/-- LIT_223 (R261, R262). -/
def execLit223 (s : State) : Result := literal 223 s

/-- LIT_224 (R261, R262). -/
def execLit224 (s : State) : Result := literal 224 s

/-- LIT_225 (R261, R262). -/
def execLit225 (s : State) : Result := literal 225 s

/-- LIT_226 (R261, R262). -/
def execLit226 (s : State) : Result := literal 226 s

/-- LIT_227 (R261, R262). -/
def execLit227 (s : State) : Result := literal 227 s

/-- LIT_228 (R261, R262). -/
def execLit228 (s : State) : Result := literal 228 s

/-- LIT_229 (R261, R262). -/
def execLit229 (s : State) : Result := literal 229 s

/-- LIT_230 (R261, R262). -/
def execLit230 (s : State) : Result := literal 230 s

/-- LIT_231 (R261, R262). -/
def execLit231 (s : State) : Result := literal 231 s

/-- LIT_232 (R261, R262). -/
def execLit232 (s : State) : Result := literal 232 s

/-- LIT_233 (R261, R262). -/
def execLit233 (s : State) : Result := literal 233 s

/-- LIT_234 (R261, R262). -/
def execLit234 (s : State) : Result := literal 234 s

/-- LIT_235 (R261, R262). -/
def execLit235 (s : State) : Result := literal 235 s

/-- LIT_236 (R261, R262). -/
def execLit236 (s : State) : Result := literal 236 s

/-- LIT_237 (R261, R262). -/
def execLit237 (s : State) : Result := literal 237 s

/-- LIT_238 (R261, R262). -/
def execLit238 (s : State) : Result := literal 238 s

/-- LIT_239 (R261, R262). -/
def execLit239 (s : State) : Result := literal 239 s

/-- LIT_240 (R261, R262). -/
def execLit240 (s : State) : Result := literal 240 s

/-- LIT_241 (R261, R262). -/
def execLit241 (s : State) : Result := literal 241 s

/-- LIT_242 (R261, R262). -/
def execLit242 (s : State) : Result := literal 242 s

/-- LIT_243 (R261, R262). -/
def execLit243 (s : State) : Result := literal 243 s

/-- LIT_244 (R261, R262). -/
def execLit244 (s : State) : Result := literal 244 s

/-- LIT_245 (R261, R262). -/
def execLit245 (s : State) : Result := literal 245 s

/-- LIT_246 (R261, R262). -/
def execLit246 (s : State) : Result := literal 246 s

/-- LIT_247 (R261, R262). -/
def execLit247 (s : State) : Result := literal 247 s

/-- LIT_248 (R261, R262). -/
def execLit248 (s : State) : Result := literal 248 s

/-- LIT_249 (R261, R262). -/
def execLit249 (s : State) : Result := literal 249 s

/-- LIT_250 (R261, R262). -/
def execLit250 (s : State) : Result := literal 250 s

/-- LIT_251 (R261, R262). -/
def execLit251 (s : State) : Result := literal 251 s

/-- LIT_252 (R261, R262). -/
def execLit252 (s : State) : Result := literal 252 s

/-- LIT_253 (R261, R262). -/
def execLit253 (s : State) : Result := literal 253 s

/-- LIT_254 (R261, R262). -/
def execLit254 (s : State) : Result := literal 254 s

/-- LIT_255 (R261, R262). -/
def execLit255 (s : State) : Result := literal 255 s

/-- EOB (R263). -/
def execEob (s : State) : Result := endOfBlock s

/-- LEN_257 (R104, R264). -/
def execLen257 (s : State) : Result := lengthSymbol 3 0 0 s

/-- LEN_258 (R104, R264). -/
def execLen258 (s : State) : Result := lengthSymbol 4 0 0 s

/-- LEN_259 (R104, R264). -/
def execLen259 (s : State) : Result := lengthSymbol 5 0 0 s

/-- LEN_260 (R104, R264). -/
def execLen260 (s : State) : Result := lengthSymbol 6 0 0 s

/-- LEN_261 (R104, R264). -/
def execLen261 (s : State) : Result := lengthSymbol 7 0 0 s

/-- LEN_262 (R104, R264). -/
def execLen262 (s : State) : Result := lengthSymbol 8 0 0 s

/-- LEN_263 (R104, R264). -/
def execLen263 (s : State) : Result := lengthSymbol 9 0 0 s

/-- LEN_264 (R104, R264). -/
def execLen264 (s : State) : Result := lengthSymbol 10 0 0 s

/-- LEN_265 (R104, R264). -/
def execLen265 (x : BitVec 1) (s : State) : Result := lengthSymbol 11 1 x.toNat s

/-- LEN_266 (R104, R264). -/
def execLen266 (x : BitVec 1) (s : State) : Result := lengthSymbol 13 1 x.toNat s

/-- LEN_267 (R104, R264). -/
def execLen267 (x : BitVec 1) (s : State) : Result := lengthSymbol 15 1 x.toNat s

/-- LEN_268 (R104, R264). -/
def execLen268 (x : BitVec 1) (s : State) : Result := lengthSymbol 17 1 x.toNat s

/-- LEN_269 (R104, R264). -/
def execLen269 (x : BitVec 2) (s : State) : Result := lengthSymbol 19 2 x.toNat s

/-- LEN_270 (R104, R264). -/
def execLen270 (x : BitVec 2) (s : State) : Result := lengthSymbol 23 2 x.toNat s

/-- LEN_271 (R104, R264). -/
def execLen271 (x : BitVec 2) (s : State) : Result := lengthSymbol 27 2 x.toNat s

/-- LEN_272 (R104, R264). -/
def execLen272 (x : BitVec 2) (s : State) : Result := lengthSymbol 31 2 x.toNat s

/-- LEN_273 (R104, R264). -/
def execLen273 (x : BitVec 3) (s : State) : Result := lengthSymbol 35 3 x.toNat s

/-- LEN_274 (R104, R264). -/
def execLen274 (x : BitVec 3) (s : State) : Result := lengthSymbol 43 3 x.toNat s

/-- LEN_275 (R104, R264). -/
def execLen275 (x : BitVec 3) (s : State) : Result := lengthSymbol 51 3 x.toNat s

/-- LEN_276 (R104, R264). -/
def execLen276 (x : BitVec 3) (s : State) : Result := lengthSymbol 59 3 x.toNat s

/-- LEN_277 (R104, R264). -/
def execLen277 (x : BitVec 4) (s : State) : Result := lengthSymbol 67 4 x.toNat s

/-- LEN_278 (R104, R264). -/
def execLen278 (x : BitVec 4) (s : State) : Result := lengthSymbol 83 4 x.toNat s

/-- LEN_279 (R104, R264). -/
def execLen279 (x : BitVec 4) (s : State) : Result := lengthSymbol 99 4 x.toNat s

/-- LEN_280 (R104, R264). -/
def execLen280 (x : BitVec 4) (s : State) : Result := lengthSymbol 115 4 x.toNat s

/-- LEN_281 (R104, R264). -/
def execLen281 (x : BitVec 5) (s : State) : Result := lengthSymbol 131 5 x.toNat s

/-- LEN_282 (R104, R264). -/
def execLen282 (x : BitVec 5) (s : State) : Result := lengthSymbol 163 5 x.toNat s

/-- LEN_283 (R104, R264). -/
def execLen283 (x : BitVec 5) (s : State) : Result := lengthSymbol 195 5 x.toNat s

/-- LEN_284 (R104, R264). -/
def execLen284 (x : BitVec 5) (s : State) : Result := lengthSymbol 227 5 x.toNat s

/-- LEN_285 (R104, R264). -/
def execLen285 (s : State) : Result := lengthSymbol 258 0 0 s

/-- LL_INVALID_286 (R110, R261). -/
def execLlInvalid286 (s : State) : Result := badCode s

/-- LL_INVALID_287 (R110, R261). -/
def execLlInvalid287 (s : State) : Result := badCode s

/-- DIST_0 (R105, R266, R302). -/
def execDist0 (s : State) : Result := distSymbol 1 0 0 s

/-- DIST_1 (R105, R266, R302). -/
def execDist1 (s : State) : Result := distSymbol 2 0 0 s

/-- DIST_2 (R105, R266, R302). -/
def execDist2 (s : State) : Result := distSymbol 3 0 0 s

/-- DIST_3 (R105, R266, R302). -/
def execDist3 (s : State) : Result := distSymbol 4 0 0 s

/-- DIST_4 (R105, R266, R302). -/
def execDist4 (x : BitVec 1) (s : State) : Result := distSymbol 5 1 x.toNat s

/-- DIST_5 (R105, R266, R302). -/
def execDist5 (x : BitVec 1) (s : State) : Result := distSymbol 7 1 x.toNat s

/-- DIST_6 (R105, R266, R302). -/
def execDist6 (x : BitVec 2) (s : State) : Result := distSymbol 9 2 x.toNat s

/-- DIST_7 (R105, R266, R302). -/
def execDist7 (x : BitVec 2) (s : State) : Result := distSymbol 13 2 x.toNat s

/-- DIST_8 (R105, R266, R302). -/
def execDist8 (x : BitVec 3) (s : State) : Result := distSymbol 17 3 x.toNat s

/-- DIST_9 (R105, R266, R302). -/
def execDist9 (x : BitVec 3) (s : State) : Result := distSymbol 25 3 x.toNat s

/-- DIST_10 (R105, R266, R302). -/
def execDist10 (x : BitVec 4) (s : State) : Result := distSymbol 33 4 x.toNat s

/-- DIST_11 (R105, R266, R302). -/
def execDist11 (x : BitVec 4) (s : State) : Result := distSymbol 49 4 x.toNat s

/-- DIST_12 (R105, R266, R302). -/
def execDist12 (x : BitVec 5) (s : State) : Result := distSymbol 65 5 x.toNat s

/-- DIST_13 (R105, R266, R302). -/
def execDist13 (x : BitVec 5) (s : State) : Result := distSymbol 97 5 x.toNat s

/-- DIST_14 (R105, R266, R302). -/
def execDist14 (x : BitVec 6) (s : State) : Result := distSymbol 129 6 x.toNat s

/-- DIST_15 (R105, R266, R302). -/
def execDist15 (x : BitVec 6) (s : State) : Result := distSymbol 193 6 x.toNat s

/-- DIST_16 (R105, R266, R302). -/
def execDist16 (x : BitVec 7) (s : State) : Result := distSymbol 257 7 x.toNat s

/-- DIST_17 (R105, R266, R302). -/
def execDist17 (x : BitVec 7) (s : State) : Result := distSymbol 385 7 x.toNat s

/-- DIST_18 (R105, R266, R302). -/
def execDist18 (x : BitVec 8) (s : State) : Result := distSymbol 513 8 x.toNat s

/-- DIST_19 (R105, R266, R302). -/
def execDist19 (x : BitVec 8) (s : State) : Result := distSymbol 769 8 x.toNat s

/-- DIST_20 (R105, R266, R302). -/
def execDist20 (x : BitVec 9) (s : State) : Result := distSymbol 1025 9 x.toNat s

/-- DIST_21 (R105, R266, R302). -/
def execDist21 (x : BitVec 9) (s : State) : Result := distSymbol 1537 9 x.toNat s

/-- DIST_22 (R105, R266, R302). -/
def execDist22 (x : BitVec 10) (s : State) : Result := distSymbol 2049 10 x.toNat s

/-- DIST_23 (R105, R266, R302). -/
def execDist23 (x : BitVec 10) (s : State) : Result := distSymbol 3073 10 x.toNat s

/-- DIST_24 (R105, R266, R302). -/
def execDist24 (x : BitVec 11) (s : State) : Result := distSymbol 4097 11 x.toNat s

/-- DIST_25 (R105, R266, R302). -/
def execDist25 (x : BitVec 11) (s : State) : Result := distSymbol 6145 11 x.toNat s

/-- DIST_26 (R105, R266, R302). -/
def execDist26 (x : BitVec 12) (s : State) : Result := distSymbol 8193 12 x.toNat s

/-- DIST_27 (R105, R266, R302). -/
def execDist27 (x : BitVec 12) (s : State) : Result := distSymbol 12289 12 x.toNat s

/-- DIST_28 (R105, R266, R302). -/
def execDist28 (x : BitVec 13) (s : State) : Result := distSymbol 16385 13 x.toNat s

/-- DIST_29 (R105, R266, R302). -/
def execDist29 (x : BitVec 13) (s : State) : Result := distSymbol 24577 13 x.toNat s

/-- DIST_INVALID_30 (R110, R265). -/
def execDistInvalid30 (s : State) : Result := badCode s

/-- DIST_INVALID_31 (R110, R265). -/
def execDistInvalid31 (s : State) : Result := badCode s

end Sys2Proof.Machine
end

