-- ==== Sys2Proof/Syntax.lean ====
section
/-! DEFINITION. The instructions: one constructor per row of spec/opcode_table.json (00_scope.md R3: an instruction is one element
of the compressed stream or one host command). Operands are the element's own bits, at the width the encoding gives them. -/

namespace Sys2Proof

/-- One stream element or one host command. A symbol's constructor carries the extra bits that follow its code (R97, R104, R105). -/
inductive Instr where
  /-- BLOCK_STORED: BTYPE = 0 (R190). -/
  | blockStored (final : Bool)
  /-- BLOCK_FIXED: BTYPE = 1 (R190). -/
  | blockFixed (final : Bool)
  /-- BLOCK_DYNAMIC: BTYPE = 2 (R190). -/
  | blockDynamic (final : Bool)
  /-- BLOCK_RESERVED: BTYPE = 3 (R190). -/
  | blockReserved (final : Bool)
  /-- ALIGN_PAD: the pad bits of a stored block (R192). -/
  | alignPad (width : BitVec 3) (pad : BitVec 7)
  /-- STORED_LEN: LEN and NLEN (R193). -/
  | storedLen (len : BitVec 16) (nlen : BitVec 16)
  /-- STORED_BYTE: one byte of a stored block (R195). -/
  | storedByte (b : Byte)
  /-- DYN_HDR: the raw count fields (R221). -/
  | dynHdr (hlit : BitVec 5) (hdist : BitVec 5) (hclen : BitVec 4)
  /-- CLL: one code-length-length (R222). -/
  | cll (l : BitVec 3)
  /-- CL_LEN_0: CL symbol 0 (R224). -/
  | clLen0
  /-- CL_LEN_1: CL symbol 1 (R224). -/
  | clLen1
  /-- CL_LEN_2: CL symbol 2 (R224). -/
  | clLen2
  /-- CL_LEN_3: CL symbol 3 (R224). -/
  | clLen3
  /-- CL_LEN_4: CL symbol 4 (R224). -/
  | clLen4
  /-- CL_LEN_5: CL symbol 5 (R224). -/
  | clLen5
  /-- CL_LEN_6: CL symbol 6 (R224). -/
  | clLen6
  /-- CL_LEN_7: CL symbol 7 (R224). -/
  | clLen7
  /-- CL_LEN_8: CL symbol 8 (R224). -/
  | clLen8
  /-- CL_LEN_9: CL symbol 9 (R224). -/
  | clLen9
  /-- CL_LEN_10: CL symbol 10 (R224). -/
  | clLen10
  /-- CL_LEN_11: CL symbol 11 (R224). -/
  | clLen11
  /-- CL_LEN_12: CL symbol 12 (R224). -/
  | clLen12
  /-- CL_LEN_13: CL symbol 13 (R224). -/
  | clLen13
  /-- CL_LEN_14: CL symbol 14 (R224). -/
  | clLen14
  /-- CL_LEN_15: CL symbol 15 (R224). -/
  | clLen15
  /-- CL_REP_PREV: CL symbol 16 and its extra bits (R226). -/
  | clRepPrev (x : BitVec 2)
  /-- CL_REP_Z3: CL symbol 17 and its extra bits (R226). -/
  | clRepZ3 (x : BitVec 3)
  /-- CL_REP_Z11: CL symbol 18 and its extra bits (R226). -/
  | clRepZ11 (x : BitVec 7)
  /-- EOB: end of block (R263). -/
  | eob
  /-- LEN_257: length base 3, 0 extra bits (R264). -/
  | len257
  /-- LEN_258: length base 4, 0 extra bits (R264). -/
  | len258
  /-- LEN_259: length base 5, 0 extra bits (R264). -/
  | len259
  /-- LEN_260: length base 6, 0 extra bits (R264). -/
  | len260
  /-- LEN_261: length base 7, 0 extra bits (R264). -/
  | len261
  /-- LEN_262: length base 8, 0 extra bits (R264). -/
  | len262
  /-- LEN_263: length base 9, 0 extra bits (R264). -/
  | len263
  /-- LEN_264: length base 10, 0 extra bits (R264). -/
  | len264
  /-- LEN_265: length base 11, 1 extra bits (R264). -/
  | len265 (x : BitVec 1)
  /-- LEN_266: length base 13, 1 extra bits (R264). -/
  | len266 (x : BitVec 1)
  /-- LEN_267: length base 15, 1 extra bits (R264). -/
  | len267 (x : BitVec 1)
  /-- LEN_268: length base 17, 1 extra bits (R264). -/
  | len268 (x : BitVec 1)
  /-- LEN_269: length base 19, 2 extra bits (R264). -/
  | len269 (x : BitVec 2)
  /-- LEN_270: length base 23, 2 extra bits (R264). -/
  | len270 (x : BitVec 2)
  /-- LEN_271: length base 27, 2 extra bits (R264). -/
  | len271 (x : BitVec 2)
  /-- LEN_272: length base 31, 2 extra bits (R264). -/
  | len272 (x : BitVec 2)
  /-- LEN_273: length base 35, 3 extra bits (R264). -/
  | len273 (x : BitVec 3)
  /-- LEN_274: length base 43, 3 extra bits (R264). -/
  | len274 (x : BitVec 3)
  /-- LEN_275: length base 51, 3 extra bits (R264). -/
  | len275 (x : BitVec 3)
  /-- LEN_276: length base 59, 3 extra bits (R264). -/
  | len276 (x : BitVec 3)
  /-- LEN_277: length base 67, 4 extra bits (R264). -/
  | len277 (x : BitVec 4)
  /-- LEN_278: length base 83, 4 extra bits (R264). -/
  | len278 (x : BitVec 4)
  /-- LEN_279: length base 99, 4 extra bits (R264). -/
  | len279 (x : BitVec 4)
  /-- LEN_280: length base 115, 4 extra bits (R264). -/
  | len280 (x : BitVec 4)
  /-- LEN_281: length base 131, 5 extra bits (R264). -/
  | len281 (x : BitVec 5)
  /-- LEN_282: length base 163, 5 extra bits (R264). -/
  | len282 (x : BitVec 5)
  /-- LEN_283: length base 195, 5 extra bits (R264). -/
  | len283 (x : BitVec 5)
  /-- LEN_284: length base 227, 5 extra bits (R264). -/
  | len284 (x : BitVec 5)
  /-- LEN_285: length base 258, 0 extra bits (R264). -/
  | len285
  /-- LL_INVALID_286: reserved (R261). -/
  | llInvalid286
  /-- LL_INVALID_287: reserved (R261). -/
  | llInvalid287
  /-- DIST_0: distance base 1, 0 extra bits (R265, R266). -/
  | dist0
  /-- DIST_1: distance base 2, 0 extra bits (R265, R266). -/
  | dist1
  /-- DIST_2: distance base 3, 0 extra bits (R265, R266). -/
  | dist2
  /-- DIST_3: distance base 4, 0 extra bits (R265, R266). -/
  | dist3
  /-- DIST_4: distance base 5, 1 extra bits (R265, R266). -/
  | dist4 (x : BitVec 1)
  /-- DIST_5: distance base 7, 1 extra bits (R265, R266). -/
  | dist5 (x : BitVec 1)
  /-- DIST_6: distance base 9, 2 extra bits (R265, R266). -/
  | dist6 (x : BitVec 2)
  /-- DIST_7: distance base 13, 2 extra bits (R265, R266). -/
  | dist7 (x : BitVec 2)
  /-- DIST_8: distance base 17, 3 extra bits (R265, R266). -/
  | dist8 (x : BitVec 3)
  /-- DIST_9: distance base 25, 3 extra bits (R265, R266). -/
  | dist9 (x : BitVec 3)
  /-- DIST_10: distance base 33, 4 extra bits (R265, R266). -/
  | dist10 (x : BitVec 4)
  /-- DIST_11: distance base 49, 4 extra bits (R265, R266). -/
  | dist11 (x : BitVec 4)
  /-- DIST_12: distance base 65, 5 extra bits (R265, R266). -/
  | dist12 (x : BitVec 5)
  /-- DIST_13: distance base 97, 5 extra bits (R265, R266). -/
  | dist13 (x : BitVec 5)
  /-- DIST_14: distance base 129, 6 extra bits (R265, R266). -/
  | dist14 (x : BitVec 6)
  /-- DIST_15: distance base 193, 6 extra bits (R265, R266). -/
  | dist15 (x : BitVec 6)
  /-- DIST_16: distance base 257, 7 extra bits (R265, R266). -/
  | dist16 (x : BitVec 7)
  /-- DIST_17: distance base 385, 7 extra bits (R265, R266). -/
  | dist17 (x : BitVec 7)
  /-- DIST_18: distance base 513, 8 extra bits (R265, R266). -/
  | dist18 (x : BitVec 8)
  /-- DIST_19: distance base 769, 8 extra bits (R265, R266). -/
  | dist19 (x : BitVec 8)
  /-- DIST_20: distance base 1025, 9 extra bits (R265, R266). -/
  | dist20 (x : BitVec 9)
  /-- DIST_21: distance base 1537, 9 extra bits (R265, R266). -/
  | dist21 (x : BitVec 9)
  /-- DIST_22: distance base 2049, 10 extra bits (R265, R266). -/
  | dist22 (x : BitVec 10)
  /-- DIST_23: distance base 3073, 10 extra bits (R265, R266). -/
  | dist23 (x : BitVec 10)
  /-- DIST_24: distance base 4097, 11 extra bits (R265, R266). -/
  | dist24 (x : BitVec 11)
  /-- DIST_25: distance base 6145, 11 extra bits (R265, R266). -/
  | dist25 (x : BitVec 11)
  /-- DIST_26: distance base 8193, 12 extra bits (R265, R266). -/
  | dist26 (x : BitVec 12)
  /-- DIST_27: distance base 12289, 12 extra bits (R265, R266). -/
  | dist27 (x : BitVec 12)
  /-- DIST_28: distance base 16385, 13 extra bits (R265, R266). -/
  | dist28 (x : BitVec 13)
  /-- DIST_29: distance base 24577, 13 extra bits (R265, R266). -/
  | dist29 (x : BitVec 13)
  /-- DIST_INVALID_30: reserved (R265). -/
  | distInvalid30
  /-- DIST_INVALID_31: reserved (R265). -/
  | distInvalid31
  /-- RESET: CMD = 0 (R109). -/
  | reset
  /-- DECODE: CMD = 1 (R109). -/
  | decode
  /-- ADD_HISTORY: CMD = 2 (R109). -/
  | addHistory
  /-- WORKBUF_LEN: CMD = 3 (R109). -/
  | workbufLen
  | lit0
  | lit1
  | lit2
  | lit3
  | lit4
  | lit5
  | lit6
  | lit7
  | lit8
  | lit9
  | lit10
  | lit11
  | lit12
  | lit13
  | lit14
  | lit15
  | lit16
  | lit17
  | lit18
  | lit19
  | lit20
  | lit21
  | lit22
  | lit23
  | lit24
  | lit25
  | lit26
  | lit27
  | lit28
  | lit29
  | lit30
  | lit31
  | lit32
  | lit33
  | lit34
  | lit35
  | lit36
  | lit37
  | lit38
  | lit39
  | lit40
  | lit41
  | lit42
  | lit43
  | lit44
  | lit45
  | lit46
  | lit47
  | lit48
  | lit49
  | lit50
  | lit51
  | lit52
  | lit53
  | lit54
  | lit55
  | lit56
  | lit57
  | lit58
  | lit59
  | lit60
  | lit61
  | lit62
  | lit63
  | lit64
  | lit65
  | lit66
  | lit67
  | lit68
  | lit69
  | lit70
  | lit71
  | lit72
  | lit73
  | lit74
  | lit75
  | lit76
  | lit77
  | lit78
  | lit79
  | lit80
  | lit81
  | lit82
  | lit83
  | lit84
  | lit85
  | lit86
  | lit87
  | lit88
  | lit89
  | lit90
  | lit91
  | lit92
  | lit93
  | lit94
  | lit95
  | lit96
  | lit97
  | lit98
  | lit99
  | lit100
  | lit101
  | lit102
  | lit103
  | lit104
  | lit105
  | lit106
  | lit107
  | lit108
  | lit109
  | lit110
  | lit111
  | lit112
  | lit113
  | lit114
  | lit115
  | lit116
  | lit117
  | lit118
  | lit119
  | lit120
  | lit121
  | lit122
  | lit123
  | lit124
  | lit125
  | lit126
  | lit127
  | lit128
  | lit129
  | lit130
  | lit131
  | lit132
  | lit133
  | lit134
  | lit135
  | lit136
  | lit137
  | lit138
  | lit139
  | lit140
  | lit141
  | lit142
  | lit143
  | lit144
  | lit145
  | lit146
  | lit147
  | lit148
  | lit149
  | lit150
  | lit151
  | lit152
  | lit153
  | lit154
  | lit155
  | lit156
  | lit157
  | lit158
  | lit159
  | lit160
  | lit161
  | lit162
  | lit163
  | lit164
  | lit165
  | lit166
  | lit167
  | lit168
  | lit169
  | lit170
  | lit171
  | lit172
  | lit173
  | lit174
  | lit175
  | lit176
  | lit177
  | lit178
  | lit179
  | lit180
  | lit181
  | lit182
  | lit183
  | lit184
  | lit185
  | lit186
  | lit187
  | lit188
  | lit189
  | lit190
  | lit191
  | lit192
  | lit193
  | lit194
  | lit195
  | lit196
  | lit197
  | lit198
  | lit199
  | lit200
  | lit201
  | lit202
  | lit203
  | lit204
  | lit205
  | lit206
  | lit207
  | lit208
  | lit209
  | lit210
  | lit211
  | lit212
  | lit213
  | lit214
  | lit215
  | lit216
  | lit217
  | lit218
  | lit219
  | lit220
  | lit221
  | lit222
  | lit223
  | lit224
  | lit225
  | lit226
  | lit227
  | lit228
  | lit229
  | lit230
  | lit231
  | lit232
  | lit233
  | lit234
  | lit235
  | lit236
  | lit237
  | lit238
  | lit239
  | lit240
  | lit241
  | lit242
  | lit243
  | lit244
  | lit245
  | lit246
  | lit247
  | lit248
  | lit249
  | lit250
  | lit251
  | lit252
  | lit253
  | lit254
  | lit255
deriving DecidableEq, Repr

end Sys2Proof
end

