-- ==== Sys2Proof/Machine/Dispatch.lean ====
section
/-! DEFINITION. One arm per constructor of Instr. -/

namespace Sys2Proof.Machine

def exec (i : Instr) (s : State) : Host.Outcome State Fault Refusal :=
  match i with
  | .blockStored final => Sys2Proof.Machine.execBlockStored final s
  | .blockFixed final => Sys2Proof.Machine.execBlockFixed final s
  | .blockDynamic final => Sys2Proof.Machine.execBlockDynamic final s
  | .blockReserved final => Sys2Proof.Machine.execBlockReserved final s
  | .alignPad width pad => Sys2Proof.Machine.execAlignPad width pad s
  | .storedLen len nlen => Sys2Proof.Machine.execStoredLen len nlen s
  | .storedByte b => Sys2Proof.Machine.execStoredByte b s
  | .dynHdr hlit hdist hclen => Sys2Proof.Machine.execDynHdr hlit hdist hclen s
  | .cll l => Sys2Proof.Machine.execCll l s
  | .clLen0 => Sys2Proof.Machine.execClLen0 s
  | .clLen1 => Sys2Proof.Machine.execClLen1 s
  | .clLen2 => Sys2Proof.Machine.execClLen2 s
  | .clLen3 => Sys2Proof.Machine.execClLen3 s
  | .clLen4 => Sys2Proof.Machine.execClLen4 s
  | .clLen5 => Sys2Proof.Machine.execClLen5 s
  | .clLen6 => Sys2Proof.Machine.execClLen6 s
  | .clLen7 => Sys2Proof.Machine.execClLen7 s
  | .clLen8 => Sys2Proof.Machine.execClLen8 s
  | .clLen9 => Sys2Proof.Machine.execClLen9 s
  | .clLen10 => Sys2Proof.Machine.execClLen10 s
  | .clLen11 => Sys2Proof.Machine.execClLen11 s
  | .clLen12 => Sys2Proof.Machine.execClLen12 s
  | .clLen13 => Sys2Proof.Machine.execClLen13 s
  | .clLen14 => Sys2Proof.Machine.execClLen14 s
  | .clLen15 => Sys2Proof.Machine.execClLen15 s
  | .clRepPrev x => Sys2Proof.Machine.execClRepPrev x s
  | .clRepZ3 x => Sys2Proof.Machine.execClRepZ3 x s
  | .clRepZ11 x => Sys2Proof.Machine.execClRepZ11 x s
  | .lit0 => Sys2Proof.Machine.execLit0 s
  | .lit1 => Sys2Proof.Machine.execLit1 s
  | .lit2 => Sys2Proof.Machine.execLit2 s
  | .lit3 => Sys2Proof.Machine.execLit3 s
  | .lit4 => Sys2Proof.Machine.execLit4 s
  | .lit5 => Sys2Proof.Machine.execLit5 s
  | .lit6 => Sys2Proof.Machine.execLit6 s
  | .lit7 => Sys2Proof.Machine.execLit7 s
  | .lit8 => Sys2Proof.Machine.execLit8 s
  | .lit9 => Sys2Proof.Machine.execLit9 s
  | .lit10 => Sys2Proof.Machine.execLit10 s
  | .lit11 => Sys2Proof.Machine.execLit11 s
  | .lit12 => Sys2Proof.Machine.execLit12 s
  | .lit13 => Sys2Proof.Machine.execLit13 s
  | .lit14 => Sys2Proof.Machine.execLit14 s
  | .lit15 => Sys2Proof.Machine.execLit15 s
  | .lit16 => Sys2Proof.Machine.execLit16 s
  | .lit17 => Sys2Proof.Machine.execLit17 s
  | .lit18 => Sys2Proof.Machine.execLit18 s
  | .lit19 => Sys2Proof.Machine.execLit19 s
  | .lit20 => Sys2Proof.Machine.execLit20 s
  | .lit21 => Sys2Proof.Machine.execLit21 s
  | .lit22 => Sys2Proof.Machine.execLit22 s
  | .lit23 => Sys2Proof.Machine.execLit23 s
  | .lit24 => Sys2Proof.Machine.execLit24 s
  | .lit25 => Sys2Proof.Machine.execLit25 s
  | .lit26 => Sys2Proof.Machine.execLit26 s
  | .lit27 => Sys2Proof.Machine.execLit27 s
  | .lit28 => Sys2Proof.Machine.execLit28 s
  | .lit29 => Sys2Proof.Machine.execLit29 s
  | .lit30 => Sys2Proof.Machine.execLit30 s
  | .lit31 => Sys2Proof.Machine.execLit31 s
  | .lit32 => Sys2Proof.Machine.execLit32 s
  | .lit33 => Sys2Proof.Machine.execLit33 s
  | .lit34 => Sys2Proof.Machine.execLit34 s
  | .lit35 => Sys2Proof.Machine.execLit35 s
  | .lit36 => Sys2Proof.Machine.execLit36 s
  | .lit37 => Sys2Proof.Machine.execLit37 s
  | .lit38 => Sys2Proof.Machine.execLit38 s
  | .lit39 => Sys2Proof.Machine.execLit39 s
  | .lit40 => Sys2Proof.Machine.execLit40 s
  | .lit41 => Sys2Proof.Machine.execLit41 s
  | .lit42 => Sys2Proof.Machine.execLit42 s
  | .lit43 => Sys2Proof.Machine.execLit43 s
  | .lit44 => Sys2Proof.Machine.execLit44 s
  | .lit45 => Sys2Proof.Machine.execLit45 s
  | .lit46 => Sys2Proof.Machine.execLit46 s
  | .lit47 => Sys2Proof.Machine.execLit47 s
  | .lit48 => Sys2Proof.Machine.execLit48 s
  | .lit49 => Sys2Proof.Machine.execLit49 s
  | .lit50 => Sys2Proof.Machine.execLit50 s
  | .lit51 => Sys2Proof.Machine.execLit51 s
  | .lit52 => Sys2Proof.Machine.execLit52 s
  | .lit53 => Sys2Proof.Machine.execLit53 s
  | .lit54 => Sys2Proof.Machine.execLit54 s
  | .lit55 => Sys2Proof.Machine.execLit55 s
  | .lit56 => Sys2Proof.Machine.execLit56 s
  | .lit57 => Sys2Proof.Machine.execLit57 s
  | .lit58 => Sys2Proof.Machine.execLit58 s
  | .lit59 => Sys2Proof.Machine.execLit59 s
  | .lit60 => Sys2Proof.Machine.execLit60 s
  | .lit61 => Sys2Proof.Machine.execLit61 s
  | .lit62 => Sys2Proof.Machine.execLit62 s
  | .lit63 => Sys2Proof.Machine.execLit63 s
  | .lit64 => Sys2Proof.Machine.execLit64 s
  | .lit65 => Sys2Proof.Machine.execLit65 s
  | .lit66 => Sys2Proof.Machine.execLit66 s
  | .lit67 => Sys2Proof.Machine.execLit67 s
  | .lit68 => Sys2Proof.Machine.execLit68 s
  | .lit69 => Sys2Proof.Machine.execLit69 s
  | .lit70 => Sys2Proof.Machine.execLit70 s
  | .lit71 => Sys2Proof.Machine.execLit71 s
  | .lit72 => Sys2Proof.Machine.execLit72 s
  | .lit73 => Sys2Proof.Machine.execLit73 s
  | .lit74 => Sys2Proof.Machine.execLit74 s
  | .lit75 => Sys2Proof.Machine.execLit75 s
  | .lit76 => Sys2Proof.Machine.execLit76 s
  | .lit77 => Sys2Proof.Machine.execLit77 s
  | .lit78 => Sys2Proof.Machine.execLit78 s
  | .lit79 => Sys2Proof.Machine.execLit79 s
  | .lit80 => Sys2Proof.Machine.execLit80 s
  | .lit81 => Sys2Proof.Machine.execLit81 s
  | .lit82 => Sys2Proof.Machine.execLit82 s
  | .lit83 => Sys2Proof.Machine.execLit83 s
  | .lit84 => Sys2Proof.Machine.execLit84 s
  | .lit85 => Sys2Proof.Machine.execLit85 s
  | .lit86 => Sys2Proof.Machine.execLit86 s
  | .lit87 => Sys2Proof.Machine.execLit87 s
  | .lit88 => Sys2Proof.Machine.execLit88 s
  | .lit89 => Sys2Proof.Machine.execLit89 s
  | .lit90 => Sys2Proof.Machine.execLit90 s
  | .lit91 => Sys2Proof.Machine.execLit91 s
  | .lit92 => Sys2Proof.Machine.execLit92 s
  | .lit93 => Sys2Proof.Machine.execLit93 s
  | .lit94 => Sys2Proof.Machine.execLit94 s
  | .lit95 => Sys2Proof.Machine.execLit95 s
  | .lit96 => Sys2Proof.Machine.execLit96 s
  | .lit97 => Sys2Proof.Machine.execLit97 s
  | .lit98 => Sys2Proof.Machine.execLit98 s
  | .lit99 => Sys2Proof.Machine.execLit99 s
  | .lit100 => Sys2Proof.Machine.execLit100 s
  | .lit101 => Sys2Proof.Machine.execLit101 s
  | .lit102 => Sys2Proof.Machine.execLit102 s
  | .lit103 => Sys2Proof.Machine.execLit103 s
  | .lit104 => Sys2Proof.Machine.execLit104 s
  | .lit105 => Sys2Proof.Machine.execLit105 s
  | .lit106 => Sys2Proof.Machine.execLit106 s
  | .lit107 => Sys2Proof.Machine.execLit107 s
  | .lit108 => Sys2Proof.Machine.execLit108 s
  | .lit109 => Sys2Proof.Machine.execLit109 s
  | .lit110 => Sys2Proof.Machine.execLit110 s
  | .lit111 => Sys2Proof.Machine.execLit111 s
  | .lit112 => Sys2Proof.Machine.execLit112 s
  | .lit113 => Sys2Proof.Machine.execLit113 s
  | .lit114 => Sys2Proof.Machine.execLit114 s
  | .lit115 => Sys2Proof.Machine.execLit115 s
  | .lit116 => Sys2Proof.Machine.execLit116 s
  | .lit117 => Sys2Proof.Machine.execLit117 s
  | .lit118 => Sys2Proof.Machine.execLit118 s
  | .lit119 => Sys2Proof.Machine.execLit119 s
  | .lit120 => Sys2Proof.Machine.execLit120 s
  | .lit121 => Sys2Proof.Machine.execLit121 s
  | .lit122 => Sys2Proof.Machine.execLit122 s
  | .lit123 => Sys2Proof.Machine.execLit123 s
  | .lit124 => Sys2Proof.Machine.execLit124 s
  | .lit125 => Sys2Proof.Machine.execLit125 s
  | .lit126 => Sys2Proof.Machine.execLit126 s
  | .lit127 => Sys2Proof.Machine.execLit127 s
  | .lit128 => Sys2Proof.Machine.execLit128 s
  | .lit129 => Sys2Proof.Machine.execLit129 s
  | .lit130 => Sys2Proof.Machine.execLit130 s
  | .lit131 => Sys2Proof.Machine.execLit131 s
  | .lit132 => Sys2Proof.Machine.execLit132 s
  | .lit133 => Sys2Proof.Machine.execLit133 s
  | .lit134 => Sys2Proof.Machine.execLit134 s
  | .lit135 => Sys2Proof.Machine.execLit135 s
  | .lit136 => Sys2Proof.Machine.execLit136 s
  | .lit137 => Sys2Proof.Machine.execLit137 s
  | .lit138 => Sys2Proof.Machine.execLit138 s
  | .lit139 => Sys2Proof.Machine.execLit139 s
  | .lit140 => Sys2Proof.Machine.execLit140 s
  | .lit141 => Sys2Proof.Machine.execLit141 s
  | .lit142 => Sys2Proof.Machine.execLit142 s
  | .lit143 => Sys2Proof.Machine.execLit143 s
  | .lit144 => Sys2Proof.Machine.execLit144 s
  | .lit145 => Sys2Proof.Machine.execLit145 s
  | .lit146 => Sys2Proof.Machine.execLit146 s
  | .lit147 => Sys2Proof.Machine.execLit147 s
  | .lit148 => Sys2Proof.Machine.execLit148 s
  | .lit149 => Sys2Proof.Machine.execLit149 s
  | .lit150 => Sys2Proof.Machine.execLit150 s
  | .lit151 => Sys2Proof.Machine.execLit151 s
  | .lit152 => Sys2Proof.Machine.execLit152 s
  | .lit153 => Sys2Proof.Machine.execLit153 s
  | .lit154 => Sys2Proof.Machine.execLit154 s
  | .lit155 => Sys2Proof.Machine.execLit155 s
  | .lit156 => Sys2Proof.Machine.execLit156 s
  | .lit157 => Sys2Proof.Machine.execLit157 s
  | .lit158 => Sys2Proof.Machine.execLit158 s
  | .lit159 => Sys2Proof.Machine.execLit159 s
  | .lit160 => Sys2Proof.Machine.execLit160 s
  | .lit161 => Sys2Proof.Machine.execLit161 s
  | .lit162 => Sys2Proof.Machine.execLit162 s
  | .lit163 => Sys2Proof.Machine.execLit163 s
  | .lit164 => Sys2Proof.Machine.execLit164 s
  | .lit165 => Sys2Proof.Machine.execLit165 s
  | .lit166 => Sys2Proof.Machine.execLit166 s
  | .lit167 => Sys2Proof.Machine.execLit167 s
  | .lit168 => Sys2Proof.Machine.execLit168 s
  | .lit169 => Sys2Proof.Machine.execLit169 s
  | .lit170 => Sys2Proof.Machine.execLit170 s
  | .lit171 => Sys2Proof.Machine.execLit171 s
  | .lit172 => Sys2Proof.Machine.execLit172 s
  | .lit173 => Sys2Proof.Machine.execLit173 s
  | .lit174 => Sys2Proof.Machine.execLit174 s
  | .lit175 => Sys2Proof.Machine.execLit175 s
  | .lit176 => Sys2Proof.Machine.execLit176 s
  | .lit177 => Sys2Proof.Machine.execLit177 s
  | .lit178 => Sys2Proof.Machine.execLit178 s
  | .lit179 => Sys2Proof.Machine.execLit179 s
  | .lit180 => Sys2Proof.Machine.execLit180 s
  | .lit181 => Sys2Proof.Machine.execLit181 s
  | .lit182 => Sys2Proof.Machine.execLit182 s
  | .lit183 => Sys2Proof.Machine.execLit183 s
  | .lit184 => Sys2Proof.Machine.execLit184 s
  | .lit185 => Sys2Proof.Machine.execLit185 s
  | .lit186 => Sys2Proof.Machine.execLit186 s
  | .lit187 => Sys2Proof.Machine.execLit187 s
  | .lit188 => Sys2Proof.Machine.execLit188 s
  | .lit189 => Sys2Proof.Machine.execLit189 s
  | .lit190 => Sys2Proof.Machine.execLit190 s
  | .lit191 => Sys2Proof.Machine.execLit191 s
  | .lit192 => Sys2Proof.Machine.execLit192 s
  | .lit193 => Sys2Proof.Machine.execLit193 s
  | .lit194 => Sys2Proof.Machine.execLit194 s
  | .lit195 => Sys2Proof.Machine.execLit195 s
  | .lit196 => Sys2Proof.Machine.execLit196 s
  | .lit197 => Sys2Proof.Machine.execLit197 s
  | .lit198 => Sys2Proof.Machine.execLit198 s
  | .lit199 => Sys2Proof.Machine.execLit199 s
  | .lit200 => Sys2Proof.Machine.execLit200 s
  | .lit201 => Sys2Proof.Machine.execLit201 s
  | .lit202 => Sys2Proof.Machine.execLit202 s
  | .lit203 => Sys2Proof.Machine.execLit203 s
  | .lit204 => Sys2Proof.Machine.execLit204 s
  | .lit205 => Sys2Proof.Machine.execLit205 s
  | .lit206 => Sys2Proof.Machine.execLit206 s
  | .lit207 => Sys2Proof.Machine.execLit207 s
  | .lit208 => Sys2Proof.Machine.execLit208 s
  | .lit209 => Sys2Proof.Machine.execLit209 s
  | .lit210 => Sys2Proof.Machine.execLit210 s
  | .lit211 => Sys2Proof.Machine.execLit211 s
  | .lit212 => Sys2Proof.Machine.execLit212 s
  | .lit213 => Sys2Proof.Machine.execLit213 s
  | .lit214 => Sys2Proof.Machine.execLit214 s
  | .lit215 => Sys2Proof.Machine.execLit215 s
  | .lit216 => Sys2Proof.Machine.execLit216 s
  | .lit217 => Sys2Proof.Machine.execLit217 s
  | .lit218 => Sys2Proof.Machine.execLit218 s
  | .lit219 => Sys2Proof.Machine.execLit219 s
  | .lit220 => Sys2Proof.Machine.execLit220 s
  | .lit221 => Sys2Proof.Machine.execLit221 s
  | .lit222 => Sys2Proof.Machine.execLit222 s
  | .lit223 => Sys2Proof.Machine.execLit223 s
  | .lit224 => Sys2Proof.Machine.execLit224 s
  | .lit225 => Sys2Proof.Machine.execLit225 s
  | .lit226 => Sys2Proof.Machine.execLit226 s
  | .lit227 => Sys2Proof.Machine.execLit227 s
  | .lit228 => Sys2Proof.Machine.execLit228 s
  | .lit229 => Sys2Proof.Machine.execLit229 s
  | .lit230 => Sys2Proof.Machine.execLit230 s
  | .lit231 => Sys2Proof.Machine.execLit231 s
  | .lit232 => Sys2Proof.Machine.execLit232 s
  | .lit233 => Sys2Proof.Machine.execLit233 s
  | .lit234 => Sys2Proof.Machine.execLit234 s
  | .lit235 => Sys2Proof.Machine.execLit235 s
  | .lit236 => Sys2Proof.Machine.execLit236 s
  | .lit237 => Sys2Proof.Machine.execLit237 s
  | .lit238 => Sys2Proof.Machine.execLit238 s
  | .lit239 => Sys2Proof.Machine.execLit239 s
  | .lit240 => Sys2Proof.Machine.execLit240 s
  | .lit241 => Sys2Proof.Machine.execLit241 s
  | .lit242 => Sys2Proof.Machine.execLit242 s
  | .lit243 => Sys2Proof.Machine.execLit243 s
  | .lit244 => Sys2Proof.Machine.execLit244 s
  | .lit245 => Sys2Proof.Machine.execLit245 s
  | .lit246 => Sys2Proof.Machine.execLit246 s
  | .lit247 => Sys2Proof.Machine.execLit247 s
  | .lit248 => Sys2Proof.Machine.execLit248 s
  | .lit249 => Sys2Proof.Machine.execLit249 s
  | .lit250 => Sys2Proof.Machine.execLit250 s
  | .lit251 => Sys2Proof.Machine.execLit251 s
  | .lit252 => Sys2Proof.Machine.execLit252 s
  | .lit253 => Sys2Proof.Machine.execLit253 s
  | .lit254 => Sys2Proof.Machine.execLit254 s
  | .lit255 => Sys2Proof.Machine.execLit255 s
  | .eob => Sys2Proof.Machine.execEob s
  | .len257 => Sys2Proof.Machine.execLen257 s
  | .len258 => Sys2Proof.Machine.execLen258 s
  | .len259 => Sys2Proof.Machine.execLen259 s
  | .len260 => Sys2Proof.Machine.execLen260 s
  | .len261 => Sys2Proof.Machine.execLen261 s
  | .len262 => Sys2Proof.Machine.execLen262 s
  | .len263 => Sys2Proof.Machine.execLen263 s
  | .len264 => Sys2Proof.Machine.execLen264 s
  | .len265 x => Sys2Proof.Machine.execLen265 x s
  | .len266 x => Sys2Proof.Machine.execLen266 x s
  | .len267 x => Sys2Proof.Machine.execLen267 x s
  | .len268 x => Sys2Proof.Machine.execLen268 x s
  | .len269 x => Sys2Proof.Machine.execLen269 x s
  | .len270 x => Sys2Proof.Machine.execLen270 x s
  | .len271 x => Sys2Proof.Machine.execLen271 x s
  | .len272 x => Sys2Proof.Machine.execLen272 x s
  | .len273 x => Sys2Proof.Machine.execLen273 x s
  | .len274 x => Sys2Proof.Machine.execLen274 x s
  | .len275 x => Sys2Proof.Machine.execLen275 x s
  | .len276 x => Sys2Proof.Machine.execLen276 x s
  | .len277 x => Sys2Proof.Machine.execLen277 x s
  | .len278 x => Sys2Proof.Machine.execLen278 x s
  | .len279 x => Sys2Proof.Machine.execLen279 x s
  | .len280 x => Sys2Proof.Machine.execLen280 x s
  | .len281 x => Sys2Proof.Machine.execLen281 x s
  | .len282 x => Sys2Proof.Machine.execLen282 x s
  | .len283 x => Sys2Proof.Machine.execLen283 x s
  | .len284 x => Sys2Proof.Machine.execLen284 x s
  | .len285 => Sys2Proof.Machine.execLen285 s
  | .llInvalid286 => Sys2Proof.Machine.execLlInvalid286 s
  | .llInvalid287 => Sys2Proof.Machine.execLlInvalid287 s
  | .dist0 => Sys2Proof.Machine.execDist0 s
  | .dist1 => Sys2Proof.Machine.execDist1 s
  | .dist2 => Sys2Proof.Machine.execDist2 s
  | .dist3 => Sys2Proof.Machine.execDist3 s
  | .dist4 x => Sys2Proof.Machine.execDist4 x s
  | .dist5 x => Sys2Proof.Machine.execDist5 x s
  | .dist6 x => Sys2Proof.Machine.execDist6 x s
  | .dist7 x => Sys2Proof.Machine.execDist7 x s
  | .dist8 x => Sys2Proof.Machine.execDist8 x s
  | .dist9 x => Sys2Proof.Machine.execDist9 x s
  | .dist10 x => Sys2Proof.Machine.execDist10 x s
  | .dist11 x => Sys2Proof.Machine.execDist11 x s
  | .dist12 x => Sys2Proof.Machine.execDist12 x s
  | .dist13 x => Sys2Proof.Machine.execDist13 x s
  | .dist14 x => Sys2Proof.Machine.execDist14 x s
  | .dist15 x => Sys2Proof.Machine.execDist15 x s
  | .dist16 x => Sys2Proof.Machine.execDist16 x s
  | .dist17 x => Sys2Proof.Machine.execDist17 x s
  | .dist18 x => Sys2Proof.Machine.execDist18 x s
  | .dist19 x => Sys2Proof.Machine.execDist19 x s
  | .dist20 x => Sys2Proof.Machine.execDist20 x s
  | .dist21 x => Sys2Proof.Machine.execDist21 x s
  | .dist22 x => Sys2Proof.Machine.execDist22 x s
  | .dist23 x => Sys2Proof.Machine.execDist23 x s
  | .dist24 x => Sys2Proof.Machine.execDist24 x s
  | .dist25 x => Sys2Proof.Machine.execDist25 x s
  | .dist26 x => Sys2Proof.Machine.execDist26 x s
  | .dist27 x => Sys2Proof.Machine.execDist27 x s
  | .dist28 x => Sys2Proof.Machine.execDist28 x s
  | .dist29 x => Sys2Proof.Machine.execDist29 x s
  | .distInvalid30 => Sys2Proof.Machine.execDistInvalid30 s
  | .distInvalid31 => Sys2Proof.Machine.execDistInvalid31 s
  | .reset => Sys2Proof.Machine.execReset s
  | .decode => Sys2Proof.Machine.execDecode s
  | .addHistory => Sys2Proof.Machine.execAddHistory s
  | .workbufLen => Sys2Proof.Machine.execWorkbufLen s

end Sys2Proof.Machine
end

