-- ==== Sys2Proof/WellFormed.lean ====
section
/-! DEFINITION. Which terms of Instr an encoding can hold. Every operand but one has exactly its field's width; the pad of
ALIGN_PAD (42_blocks.md R192) is `width` bits, so a wider pad value is no encoding. -/

namespace Sys2Proof

/-- The instruction is one that some bits encode. -/
def Instr.wf : Instr → Bool
  | .alignPad width pad => decide (pad.toNat < 2 ^ width.toNat)
  | .blockStored _ | .blockFixed _ | .blockDynamic _ | .blockReserved _ | .storedLen _ _ | .storedByte _ | .dynHdr _ _ _ | .cll _ => true
  | .clLen0 | .clLen1 | .clLen2 | .clLen3 | .clLen4 | .clLen5 | .clLen6 | .clLen7 => true
  | .clLen8 | .clLen9 | .clLen10 | .clLen11 | .clLen12 | .clLen13 | .clLen14 | .clLen15 => true
  | .clRepPrev _ | .clRepZ3 _ | .clRepZ11 _ | .lit0 | .lit1 | .lit2 | .lit3 | .lit4 => true
  | .lit5 | .lit6 | .lit7 | .lit8 | .lit9 | .lit10 | .lit11 | .lit12 => true
  | .lit13 | .lit14 | .lit15 | .lit16 | .lit17 | .lit18 | .lit19 | .lit20 => true
  | .lit21 | .lit22 | .lit23 | .lit24 | .lit25 | .lit26 | .lit27 | .lit28 => true
  | .lit29 | .lit30 | .lit31 | .lit32 | .lit33 | .lit34 | .lit35 | .lit36 => true
  | .lit37 | .lit38 | .lit39 | .lit40 | .lit41 | .lit42 | .lit43 | .lit44 => true
  | .lit45 | .lit46 | .lit47 | .lit48 | .lit49 | .lit50 | .lit51 | .lit52 => true
  | .lit53 | .lit54 | .lit55 | .lit56 | .lit57 | .lit58 | .lit59 | .lit60 => true
  | .lit61 | .lit62 | .lit63 | .lit64 | .lit65 | .lit66 | .lit67 | .lit68 => true
  | .lit69 | .lit70 | .lit71 | .lit72 | .lit73 | .lit74 | .lit75 | .lit76 => true
  | .lit77 | .lit78 | .lit79 | .lit80 | .lit81 | .lit82 | .lit83 | .lit84 => true
  | .lit85 | .lit86 | .lit87 | .lit88 | .lit89 | .lit90 | .lit91 | .lit92 => true
  | .lit93 | .lit94 | .lit95 | .lit96 | .lit97 | .lit98 | .lit99 | .lit100 => true
  | .lit101 | .lit102 | .lit103 | .lit104 | .lit105 | .lit106 | .lit107 | .lit108 => true
  | .lit109 | .lit110 | .lit111 | .lit112 | .lit113 | .lit114 | .lit115 | .lit116 => true
  | .lit117 | .lit118 | .lit119 | .lit120 | .lit121 | .lit122 | .lit123 | .lit124 => true
  | .lit125 | .lit126 | .lit127 | .lit128 | .lit129 | .lit130 | .lit131 | .lit132 => true
  | .lit133 | .lit134 | .lit135 | .lit136 | .lit137 | .lit138 | .lit139 | .lit140 => true
  | .lit141 | .lit142 | .lit143 | .lit144 | .lit145 | .lit146 | .lit147 | .lit148 => true
  | .lit149 | .lit150 | .lit151 | .lit152 | .lit153 | .lit154 | .lit155 | .lit156 => true
  | .lit157 | .lit158 | .lit159 | .lit160 | .lit161 | .lit162 | .lit163 | .lit164 => true
  | .lit165 | .lit166 | .lit167 | .lit168 | .lit169 | .lit170 | .lit171 | .lit172 => true
  | .lit173 | .lit174 | .lit175 | .lit176 | .lit177 | .lit178 | .lit179 | .lit180 => true
  | .lit181 | .lit182 | .lit183 | .lit184 | .lit185 | .lit186 | .lit187 | .lit188 => true
  | .lit189 | .lit190 | .lit191 | .lit192 | .lit193 | .lit194 | .lit195 | .lit196 => true
  | .lit197 | .lit198 | .lit199 | .lit200 | .lit201 | .lit202 | .lit203 | .lit204 => true
  | .lit205 | .lit206 | .lit207 | .lit208 | .lit209 | .lit210 | .lit211 | .lit212 => true
  | .lit213 | .lit214 | .lit215 | .lit216 | .lit217 | .lit218 | .lit219 | .lit220 => true
  | .lit221 | .lit222 | .lit223 | .lit224 | .lit225 | .lit226 | .lit227 | .lit228 => true
  | .lit229 | .lit230 | .lit231 | .lit232 | .lit233 | .lit234 | .lit235 | .lit236 => true
  | .lit237 | .lit238 | .lit239 | .lit240 | .lit241 | .lit242 | .lit243 | .lit244 => true
  | .lit245 | .lit246 | .lit247 | .lit248 | .lit249 | .lit250 | .lit251 | .lit252 => true
  | .lit253 | .lit254 | .lit255 | .eob | .len257 | .len258 | .len259 | .len260 => true
  | .len261 | .len262 | .len263 | .len264 | .len265 _ | .len266 _ | .len267 _ | .len268 _ => true
  | .len269 _ | .len270 _ | .len271 _ | .len272 _ | .len273 _ | .len274 _ | .len275 _ | .len276 _ => true
  | .len277 _ | .len278 _ | .len279 _ | .len280 _ | .len281 _ | .len282 _ | .len283 _ | .len284 _ => true
  | .len285 | .llInvalid286 | .llInvalid287 | .dist0 | .dist1 | .dist2 | .dist3 | .dist4 _ => true
  | .dist5 _ | .dist6 _ | .dist7 _ | .dist8 _ | .dist9 _ | .dist10 _ | .dist11 _ | .dist12 _ => true
  | .dist13 _ | .dist14 _ | .dist15 _ | .dist16 _ | .dist17 _ | .dist18 _ | .dist19 _ | .dist20 _ => true
  | .dist21 _ | .dist22 _ | .dist23 _ | .dist24 _ | .dist25 _ | .dist26 _ | .dist27 _ | .dist28 _ => true
  | .dist29 _ | .distInvalid30 | .distInvalid31 | .reset | .decode | .addHistory | .workbufLen => true

/-- `Instr.wf` as a proposition. -/
abbrev WellFormed (i : Instr) : Prop := i.wf = true

end Sys2Proof
end

