-- ==== Sys2Proof/Decode.lean ====
section
/-! DEFINITION. Decoding (30_encoding.md): fields to instructions for the fixed-width elements (R92 to R95, R109), symbols to
instructions for the Huffman-coded ones (R96, R98, R99), and `decode`, total on any 32 bits. After it the encoder, written from
the same tables. -/

namespace Sys2Proof

open Sys2Proof.Machine

/-! ### Fixed-width elements -/

/-- The block header `v = Take(3)` (R92): `v[0]` BFINAL, `v[2:1]` BTYPE. -/
def decodeHeader (v : BitVec 3) : Instr :=
  match (v.extractLsb' 1 2).toNat with
  | 0 => .blockStored (v.getLsbD 0)
  | 1 => .blockFixed (v.getLsbD 0)
  | 2 => .blockDynamic (v.getLsbD 0)
  | _ => .blockReserved (v.getLsbD 0)

/-- The stored length word `v = Take(32)` (R93, R67): LEN low, NLEN high. -/
def decodeStoredLen (v : BitVec 32) : Instr := .storedLen (v.extractLsb' 0 16) (v.extractLsb' 16 16)

/-- The dynamic count fields `v = Take(14)` (R94). -/
def decodeDynHdr (v : BitVec 14) : Instr :=
  .dynHdr (v.extractLsb' 0 5) (v.extractLsb' 5 5) (v.extractLsb' 10 4)

/-- The host command in `CMD` (R109). -/
def decodeCommand (c : BitVec 2) : Instr :=
  match c.toNat with
  | 0 => .reset
  | 1 => .decode
  | 2 => .addHistory
  | _ => .workbufLen

/-! ### Symbols. Each entry takes the extra bits that follow the symbol's code; symbols without any ignore it. -/

/-- The 19 CL symbols (R96, R97). -/
def clTable : List (Nat → Instr) :=
  [fun _ => .clLen0, fun _ => .clLen1, fun _ => .clLen2, fun _ => .clLen3, fun _ => .clLen4,
   fun _ => .clLen5, fun _ => .clLen6, fun _ => .clLen7, fun _ => .clLen8, fun _ => .clLen9,
   fun _ => .clLen10, fun _ => .clLen11, fun _ => .clLen12, fun _ => .clLen13, fun _ => .clLen14,
   fun _ => .clLen15, fun x => .clRepPrev (.ofNat 2 x), fun x => .clRepZ3 (.ofNat 3 x), fun x => .clRepZ11 (.ofNat 7 x)]

/-- LL symbols 0 to 31. -/
def llTable0 : List (Nat → Instr) :=
  [fun _ => .lit0, fun _ => .lit1, fun _ => .lit2, fun _ => .lit3, fun _ => .lit4,
   fun _ => .lit5, fun _ => .lit6, fun _ => .lit7, fun _ => .lit8, fun _ => .lit9,
   fun _ => .lit10, fun _ => .lit11, fun _ => .lit12, fun _ => .lit13, fun _ => .lit14,
   fun _ => .lit15, fun _ => .lit16, fun _ => .lit17, fun _ => .lit18, fun _ => .lit19,
   fun _ => .lit20, fun _ => .lit21, fun _ => .lit22, fun _ => .lit23, fun _ => .lit24,
   fun _ => .lit25, fun _ => .lit26, fun _ => .lit27, fun _ => .lit28, fun _ => .lit29,
   fun _ => .lit30, fun _ => .lit31]

/-- LL symbols 32 to 63. -/
def llTable1 : List (Nat → Instr) :=
  [fun _ => .lit32, fun _ => .lit33, fun _ => .lit34, fun _ => .lit35, fun _ => .lit36,
   fun _ => .lit37, fun _ => .lit38, fun _ => .lit39, fun _ => .lit40, fun _ => .lit41,
   fun _ => .lit42, fun _ => .lit43, fun _ => .lit44, fun _ => .lit45, fun _ => .lit46,
   fun _ => .lit47, fun _ => .lit48, fun _ => .lit49, fun _ => .lit50, fun _ => .lit51,
   fun _ => .lit52, fun _ => .lit53, fun _ => .lit54, fun _ => .lit55, fun _ => .lit56,
   fun _ => .lit57, fun _ => .lit58, fun _ => .lit59, fun _ => .lit60, fun _ => .lit61,
   fun _ => .lit62, fun _ => .lit63]

/-- LL symbols 64 to 95. -/
def llTable2 : List (Nat → Instr) :=
  [fun _ => .lit64, fun _ => .lit65, fun _ => .lit66, fun _ => .lit67, fun _ => .lit68,
   fun _ => .lit69, fun _ => .lit70, fun _ => .lit71, fun _ => .lit72, fun _ => .lit73,
   fun _ => .lit74, fun _ => .lit75, fun _ => .lit76, fun _ => .lit77, fun _ => .lit78,
   fun _ => .lit79, fun _ => .lit80, fun _ => .lit81, fun _ => .lit82, fun _ => .lit83,
   fun _ => .lit84, fun _ => .lit85, fun _ => .lit86, fun _ => .lit87, fun _ => .lit88,
   fun _ => .lit89, fun _ => .lit90, fun _ => .lit91, fun _ => .lit92, fun _ => .lit93,
   fun _ => .lit94, fun _ => .lit95]

/-- LL symbols 96 to 127. -/
def llTable3 : List (Nat → Instr) :=
  [fun _ => .lit96, fun _ => .lit97, fun _ => .lit98, fun _ => .lit99, fun _ => .lit100,
   fun _ => .lit101, fun _ => .lit102, fun _ => .lit103, fun _ => .lit104, fun _ => .lit105,
   fun _ => .lit106, fun _ => .lit107, fun _ => .lit108, fun _ => .lit109, fun _ => .lit110,
   fun _ => .lit111, fun _ => .lit112, fun _ => .lit113, fun _ => .lit114, fun _ => .lit115,
   fun _ => .lit116, fun _ => .lit117, fun _ => .lit118, fun _ => .lit119, fun _ => .lit120,
   fun _ => .lit121, fun _ => .lit122, fun _ => .lit123, fun _ => .lit124, fun _ => .lit125,
   fun _ => .lit126, fun _ => .lit127]

/-- LL symbols 128 to 159. -/
def llTable4 : List (Nat → Instr) :=
  [fun _ => .lit128, fun _ => .lit129, fun _ => .lit130, fun _ => .lit131, fun _ => .lit132,
   fun _ => .lit133, fun _ => .lit134, fun _ => .lit135, fun _ => .lit136, fun _ => .lit137,
   fun _ => .lit138, fun _ => .lit139, fun _ => .lit140, fun _ => .lit141, fun _ => .lit142,
   fun _ => .lit143, fun _ => .lit144, fun _ => .lit145, fun _ => .lit146, fun _ => .lit147,
   fun _ => .lit148, fun _ => .lit149, fun _ => .lit150, fun _ => .lit151, fun _ => .lit152,
   fun _ => .lit153, fun _ => .lit154, fun _ => .lit155, fun _ => .lit156, fun _ => .lit157,
   fun _ => .lit158, fun _ => .lit159]

/-- LL symbols 160 to 191. -/
def llTable5 : List (Nat → Instr) :=
  [fun _ => .lit160, fun _ => .lit161, fun _ => .lit162, fun _ => .lit163, fun _ => .lit164,
   fun _ => .lit165, fun _ => .lit166, fun _ => .lit167, fun _ => .lit168, fun _ => .lit169,
   fun _ => .lit170, fun _ => .lit171, fun _ => .lit172, fun _ => .lit173, fun _ => .lit174,
   fun _ => .lit175, fun _ => .lit176, fun _ => .lit177, fun _ => .lit178, fun _ => .lit179,
   fun _ => .lit180, fun _ => .lit181, fun _ => .lit182, fun _ => .lit183, fun _ => .lit184,
   fun _ => .lit185, fun _ => .lit186, fun _ => .lit187, fun _ => .lit188, fun _ => .lit189,
   fun _ => .lit190, fun _ => .lit191]

/-- LL symbols 192 to 223. -/
def llTable6 : List (Nat → Instr) :=
  [fun _ => .lit192, fun _ => .lit193, fun _ => .lit194, fun _ => .lit195, fun _ => .lit196,
   fun _ => .lit197, fun _ => .lit198, fun _ => .lit199, fun _ => .lit200, fun _ => .lit201,
   fun _ => .lit202, fun _ => .lit203, fun _ => .lit204, fun _ => .lit205, fun _ => .lit206,
   fun _ => .lit207, fun _ => .lit208, fun _ => .lit209, fun _ => .lit210, fun _ => .lit211,
   fun _ => .lit212, fun _ => .lit213, fun _ => .lit214, fun _ => .lit215, fun _ => .lit216,
   fun _ => .lit217, fun _ => .lit218, fun _ => .lit219, fun _ => .lit220, fun _ => .lit221,
   fun _ => .lit222, fun _ => .lit223]

/-- LL symbols 224 to 255. -/
def llTable7 : List (Nat → Instr) :=
  [fun _ => .lit224, fun _ => .lit225, fun _ => .lit226, fun _ => .lit227, fun _ => .lit228,
   fun _ => .lit229, fun _ => .lit230, fun _ => .lit231, fun _ => .lit232, fun _ => .lit233,
   fun _ => .lit234, fun _ => .lit235, fun _ => .lit236, fun _ => .lit237, fun _ => .lit238,
   fun _ => .lit239, fun _ => .lit240, fun _ => .lit241, fun _ => .lit242, fun _ => .lit243,
   fun _ => .lit244, fun _ => .lit245, fun _ => .lit246, fun _ => .lit247, fun _ => .lit248,
   fun _ => .lit249, fun _ => .lit250, fun _ => .lit251, fun _ => .lit252, fun _ => .lit253,
   fun _ => .lit254, fun _ => .lit255]

/-- LL symbols 256 to 287. -/
def llTable8 : List (Nat → Instr) :=
  [fun _ => .eob, fun _ => .len257, fun _ => .len258, fun _ => .len259, fun _ => .len260,
   fun _ => .len261, fun _ => .len262, fun _ => .len263, fun _ => .len264, fun x => .len265 (.ofNat 1 x),
   fun x => .len266 (.ofNat 1 x), fun x => .len267 (.ofNat 1 x), fun x => .len268 (.ofNat 1 x), fun x => .len269 (.ofNat 2 x), fun x => .len270 (.ofNat 2 x),
   fun x => .len271 (.ofNat 2 x), fun x => .len272 (.ofNat 2 x), fun x => .len273 (.ofNat 3 x), fun x => .len274 (.ofNat 3 x), fun x => .len275 (.ofNat 3 x),
   fun x => .len276 (.ofNat 3 x), fun x => .len277 (.ofNat 4 x), fun x => .len278 (.ofNat 4 x), fun x => .len279 (.ofNat 4 x), fun x => .len280 (.ofNat 4 x),
   fun x => .len281 (.ofNat 5 x), fun x => .len282 (.ofNat 5 x), fun x => .len283 (.ofNat 5 x), fun x => .len284 (.ofNat 5 x), fun _ => .len285,
   fun _ => .llInvalid286, fun _ => .llInvalid287]

/-- The 288 LL symbols (R98, R104). -/
def llTable : List (Nat → Instr) :=
  llTable0 ++ llTable1 ++ llTable2 ++ llTable3 ++ llTable4 ++ llTable5 ++ llTable6 ++ llTable7 ++ llTable8

/-- The 32 D symbols (R99, R105). -/
def distTable : List (Nat → Instr) :=
  [fun _ => .dist0, fun _ => .dist1, fun _ => .dist2, fun _ => .dist3, fun x => .dist4 (.ofNat 1 x),
   fun x => .dist5 (.ofNat 1 x), fun x => .dist6 (.ofNat 2 x), fun x => .dist7 (.ofNat 2 x), fun x => .dist8 (.ofNat 3 x), fun x => .dist9 (.ofNat 3 x),
   fun x => .dist10 (.ofNat 4 x), fun x => .dist11 (.ofNat 4 x), fun x => .dist12 (.ofNat 5 x), fun x => .dist13 (.ofNat 5 x), fun x => .dist14 (.ofNat 6 x),
   fun x => .dist15 (.ofNat 6 x), fun x => .dist16 (.ofNat 7 x), fun x => .dist17 (.ofNat 7 x), fun x => .dist18 (.ofNat 8 x), fun x => .dist19 (.ofNat 8 x),
   fun x => .dist20 (.ofNat 9 x), fun x => .dist21 (.ofNat 9 x), fun x => .dist22 (.ofNat 10 x), fun x => .dist23 (.ofNat 10 x), fun x => .dist24 (.ofNat 11 x),
   fun x => .dist25 (.ofNat 11 x), fun x => .dist26 (.ofNat 12 x), fun x => .dist27 (.ofNat 12 x), fun x => .dist28 (.ofNat 13 x), fun x => .dist29 (.ofNat 13 x),
   fun _ => .distInvalid30, fun _ => .distInvalid31]

/-- The instruction of CL symbol `s` with extra field `x`. -/
def clInstr (s x : Nat) : Option Instr := clTable[s]?.map (· x)

/-- The instruction of LL symbol `s` with extra field `x`. -/
def llInstr (s x : Nat) : Option Instr := llTable[s]?.map (· x)

/-- The instruction of D symbol `s` with extra field `x`. -/
def distInstr (s x : Nat) : Option Instr := distTable[s]?.map (· x)

/-! ### Table entries. An entry carries a base and an extra-bit count, not the symbol (R156), so the symbol is found from them. -/

/-- The index of a (base, extra count) pair in the tables of R104 or R105. -/
def baseIndex (bases extras : List Nat) (e : Entry) : Option Nat :=
  (List.range bases.length).find? fun j =>
    bases.getD j 0 = (entryPayload e).toNat && extras.getD j 0 = (entryNX e).toNat

/-- The length symbol of a BASE entry of an LL table, with its extra field. -/
def lenEntryInstr (e : Entry) (x : Nat) : Option Instr :=
  (baseIndex lenBase lenExtra e).bind fun j => llInstr (257 + j) x

/-- The distance symbol of a BASE entry of a D table, with its extra field. -/
def distEntryInstr (e : Entry) (x : Nat) : Option Instr :=
  (baseIndex distBase distExtra e).bind fun s => distInstr s x

/-- The literal of a LIT entry of an LL table: the entry's payload is the byte (R150). -/
def litEntryInstr (e : Entry) : Option Instr := llInstr ((entryPayload e).toNat % 256) 0

/-- The reserved LL symbol whose 8-bit fixed code (R103: 286 is `11000110`, 287 is `11000111`) an INVALID entry ended. Any other
INVALID entry is a code with no symbol (R110). -/
def llReserved (code L : Nat) : Option Instr :=
  if L = 8 ∧ code = 0x63 then some .llInvalid286
  else if L = 8 ∧ code = 0xE3 then some .llInvalid287
  else none

/-- The reserved D symbol whose 5-bit fixed code (R103: 30 is `11110`, 31 is `11111`) an INVALID entry ended. -/
def distReserved (code L : Nat) : Option Instr :=
  if L = 5 ∧ code = 0x0F then some .distInvalid30
  else if L = 5 ∧ code = 0x1F then some .distInvalid31
  else none

/-! ### Decode -/

/-- Which element the stream holds next: decided by `FSM`, not by the bits (R90, R108). -/
inductive Slot where
  | command
  | header
  | pad (width : BitVec 3)
  | storedLen
  | storedByte
  | dynHdr
  | cll
  | cl
  | ll
  | dist
deriving DecidableEq, Repr

/-- Why bits are no instruction. -/
inductive Reject where
  /-- The bits begin with no code of the table, or with one that has no symbol (an INVALID entry, R110). -/
  | noCode
  /-- The selected entry has a kind its alphabet never holds, EMPTY among them (R166). -/
  | wrongKind
  /-- The selected entry's payload names no symbol of its alphabet. -/
  | noSymbol
deriving DecidableEq, Repr

/-- `n` bits of `w` from bit `lo` up, as a number. -/
def bitsFrom (w : Acc) (lo n : Nat) : Nat := w.toNat / 2 ^ lo % 2 ^ n

/-- An instruction and its length, or the named reason there is none. -/
def orReject (i : Option Instr) (n : Nat) : Except Reject (Instr × Nat) :=
  match i with
  | some i => .ok (i, n)
  | none => .error .noSymbol

/-- A CL symbol with its extra bits, read from the 32 stream bits `w` with the CL table `t` (R96, R97). -/
def decodeCL (t : Table) (w : Acc) : Except Reject (Instr × Nat) :=
  let (e, L) := lookup t w
  let sym := (entryPayload e).toNat
  match entryKind e with
  | .lit => orReject (clInstr sym (bitsFrom w L (repeatExtra sym))) (L + repeatExtra sym)
  | .invalid => .error .noCode
  | _ => .error .wrongKind

/-- An LL symbol with its extra bits, read with the LL table `t` (R98, R104). -/
def decodeLL (t : Table) (w : Acc) : Except Reject (Instr × Nat) :=
  let (e, L) := lookup t w
  match entryKind e with
  | .lit => orReject (litEntryInstr e) L
  | .eob => .ok (.eob, L)
  | .base => orReject (lenEntryInstr e (bitsFrom w L (entryNX e).toNat)) (L + (entryNX e).toNat)
  | .invalid =>
    match llReserved (bitsFrom w 0 L) L with
    | some i => .ok (i, L)
    | none => .error .noCode
  | _ => .error .wrongKind

/-- A D symbol with its extra bits, read with the D table `t` (R99, R105). -/
def decodeDist (t : Table) (w : Acc) : Except Reject (Instr × Nat) :=
  let (e, L) := lookup t w
  match entryKind e with
  | .base => orReject (distEntryInstr e (bitsFrom w L (entryNX e).toNat)) (L + (entryNX e).toNat)
  | .invalid =>
    match distReserved (bitsFrom w 0 L) L with
    | some i => .ok (i, L)
    | none => .error .noCode
  | _ => .error .wrongKind

/-- The element that the next 32 stream bits `w` begin with, where the stream awaits `slot`, and its length in bits. `t` is the
table of the slot's alphabet; the other slots ignore it. -/
def decode (slot : Slot) (t : Table) (w : Acc) : Except Reject (Instr × Nat) :=
  match slot with
  | .command => .ok (decodeCommand (w.setWidth 2), 2)
  | .header => .ok (decodeHeader (w.setWidth 3), 3)
  | .pad n => .ok (.alignPad n (BitVec.ofNat 7 (bitsFrom w 0 n.toNat)), n.toNat)
  | .storedLen => .ok (decodeStoredLen w, 32)
  | .storedByte => .ok (.storedByte (w.setWidth 8), 8)
  | .dynHdr => .ok (decodeDynHdr (w.setWidth 14), 14)
  | .cll => .ok (.cll (w.setWidth 3), 3)
  | .cl => decodeCL t w
  | .ll => decodeLL t w
  | .dist => decodeDist t w

/-! ### The opcode table's own numbering -/

/-- The instruction a word numbered as spec/opcode_table.json numbers it stands for (log 10). The table numbers a header by its
3 bits, a Huffman symbol by the symbol and a command by `CMD`, so rows read in different states share words: among them the row
whose element a stream can reach first after RESET is taken: command, header, CL symbol, D symbol. -/
def decodeTableWord (nbits w : Nat) : Option Instr :=
  if nbits = 32 then some (decodeStoredLen (BitVec.ofNat 32 w))
  else if nbits = 16 then
    if w < 288 then llInstr w 0
    else if w < 2 ^ 14 then some (decodeDynHdr (BitVec.ofNat 14 w))
    else none
  else if nbits = 8 ∨ nbits = 24 then
    if w < 4 then some (decodeCommand (BitVec.ofNat 2 w))
    else if w < 8 then some (decodeHeader (BitVec.ofNat 3 w))
    else if w < 19 then clInstr w 0
    else if w < 32 then distInstr w 0
    else if w < 256 then some (.storedByte (BitVec.ofNat 8 w))
    else none
  else none

/-! ### Encode -/

/-- An instruction as its format's fields (30_encoding.md section 2). -/
inductive Shape where
  | header (btype : Nat) (final : Bool)
  | pad (width : BitVec 3) (pad : BitVec 7)
  | storedLen (len nlen : BitVec 16)
  | storedByte (b : Byte)
  | dynHdr (hlit hdist : BitVec 5) (hclen : BitVec 4)
  | cll (l : BitVec 3)
  | cl (sym x : Nat)
  | ll (sym x : Nat)
  | dist (sym x : Nat)
  | command (c : Nat)
deriving DecidableEq, Repr

/-- The fields of each instruction: its row of spec/opcode_table.json. -/
def Instr.shape : Instr → Shape
  | .blockStored final => .header 0 final
  | .blockFixed final => .header 1 final
  | .blockDynamic final => .header 2 final
  | .blockReserved final => .header 3 final
  | .alignPad width pad => .pad width pad
  | .storedLen len nlen => .storedLen len nlen
  | .storedByte b => .storedByte b
  | .dynHdr hlit hdist hclen => .dynHdr hlit hdist hclen
  | .cll l => .cll l
  | .clLen0 => .cl 0 0
  | .clLen1 => .cl 1 0
  | .clLen2 => .cl 2 0
  | .clLen3 => .cl 3 0
  | .clLen4 => .cl 4 0
  | .clLen5 => .cl 5 0
  | .clLen6 => .cl 6 0
  | .clLen7 => .cl 7 0
  | .clLen8 => .cl 8 0
  | .clLen9 => .cl 9 0
  | .clLen10 => .cl 10 0
  | .clLen11 => .cl 11 0
  | .clLen12 => .cl 12 0
  | .clLen13 => .cl 13 0
  | .clLen14 => .cl 14 0
  | .clLen15 => .cl 15 0
  | .clRepPrev x => .cl 16 x.toNat
  | .clRepZ3 x => .cl 17 x.toNat
  | .clRepZ11 x => .cl 18 x.toNat
  | .lit0 => .ll 0 0
  | .lit1 => .ll 1 0
  | .lit2 => .ll 2 0
  | .lit3 => .ll 3 0
  | .lit4 => .ll 4 0
  | .lit5 => .ll 5 0
  | .lit6 => .ll 6 0
  | .lit7 => .ll 7 0
  | .lit8 => .ll 8 0
  | .lit9 => .ll 9 0
  | .lit10 => .ll 10 0
  | .lit11 => .ll 11 0
  | .lit12 => .ll 12 0
  | .lit13 => .ll 13 0
  | .lit14 => .ll 14 0
  | .lit15 => .ll 15 0
  | .lit16 => .ll 16 0
  | .lit17 => .ll 17 0
  | .lit18 => .ll 18 0
  | .lit19 => .ll 19 0
  | .lit20 => .ll 20 0
  | .lit21 => .ll 21 0
  | .lit22 => .ll 22 0
  | .lit23 => .ll 23 0
  | .lit24 => .ll 24 0
  | .lit25 => .ll 25 0
  | .lit26 => .ll 26 0
  | .lit27 => .ll 27 0
  | .lit28 => .ll 28 0
  | .lit29 => .ll 29 0
  | .lit30 => .ll 30 0
  | .lit31 => .ll 31 0
  | .lit32 => .ll 32 0
  | .lit33 => .ll 33 0
  | .lit34 => .ll 34 0
  | .lit35 => .ll 35 0
  | .lit36 => .ll 36 0
  | .lit37 => .ll 37 0
  | .lit38 => .ll 38 0
  | .lit39 => .ll 39 0
  | .lit40 => .ll 40 0
  | .lit41 => .ll 41 0
  | .lit42 => .ll 42 0
  | .lit43 => .ll 43 0
  | .lit44 => .ll 44 0
  | .lit45 => .ll 45 0
  | .lit46 => .ll 46 0
  | .lit47 => .ll 47 0
  | .lit48 => .ll 48 0
  | .lit49 => .ll 49 0
  | .lit50 => .ll 50 0
  | .lit51 => .ll 51 0
  | .lit52 => .ll 52 0
  | .lit53 => .ll 53 0
  | .lit54 => .ll 54 0
  | .lit55 => .ll 55 0
  | .lit56 => .ll 56 0
  | .lit57 => .ll 57 0
  | .lit58 => .ll 58 0
  | .lit59 => .ll 59 0
  | .lit60 => .ll 60 0
  | .lit61 => .ll 61 0
  | .lit62 => .ll 62 0
  | .lit63 => .ll 63 0
  | .lit64 => .ll 64 0
  | .lit65 => .ll 65 0
  | .lit66 => .ll 66 0
  | .lit67 => .ll 67 0
  | .lit68 => .ll 68 0
  | .lit69 => .ll 69 0
  | .lit70 => .ll 70 0
  | .lit71 => .ll 71 0
  | .lit72 => .ll 72 0
  | .lit73 => .ll 73 0
  | .lit74 => .ll 74 0
  | .lit75 => .ll 75 0
  | .lit76 => .ll 76 0
  | .lit77 => .ll 77 0
  | .lit78 => .ll 78 0
  | .lit79 => .ll 79 0
  | .lit80 => .ll 80 0
  | .lit81 => .ll 81 0
  | .lit82 => .ll 82 0
  | .lit83 => .ll 83 0
  | .lit84 => .ll 84 0
  | .lit85 => .ll 85 0
  | .lit86 => .ll 86 0
  | .lit87 => .ll 87 0
  | .lit88 => .ll 88 0
  | .lit89 => .ll 89 0
  | .lit90 => .ll 90 0
  | .lit91 => .ll 91 0
  | .lit92 => .ll 92 0
  | .lit93 => .ll 93 0
  | .lit94 => .ll 94 0
  | .lit95 => .ll 95 0
  | .lit96 => .ll 96 0
  | .lit97 => .ll 97 0
  | .lit98 => .ll 98 0
  | .lit99 => .ll 99 0
  | .lit100 => .ll 100 0
  | .lit101 => .ll 101 0
  | .lit102 => .ll 102 0
  | .lit103 => .ll 103 0
  | .lit104 => .ll 104 0
  | .lit105 => .ll 105 0
  | .lit106 => .ll 106 0
  | .lit107 => .ll 107 0
  | .lit108 => .ll 108 0
  | .lit109 => .ll 109 0
  | .lit110 => .ll 110 0
  | .lit111 => .ll 111 0
  | .lit112 => .ll 112 0
  | .lit113 => .ll 113 0
  | .lit114 => .ll 114 0
  | .lit115 => .ll 115 0
  | .lit116 => .ll 116 0
  | .lit117 => .ll 117 0
  | .lit118 => .ll 118 0
  | .lit119 => .ll 119 0
  | .lit120 => .ll 120 0
  | .lit121 => .ll 121 0
  | .lit122 => .ll 122 0
  | .lit123 => .ll 123 0
  | .lit124 => .ll 124 0
  | .lit125 => .ll 125 0
  | .lit126 => .ll 126 0
  | .lit127 => .ll 127 0
  | .lit128 => .ll 128 0
  | .lit129 => .ll 129 0
  | .lit130 => .ll 130 0
  | .lit131 => .ll 131 0
  | .lit132 => .ll 132 0
  | .lit133 => .ll 133 0
  | .lit134 => .ll 134 0
  | .lit135 => .ll 135 0
  | .lit136 => .ll 136 0
  | .lit137 => .ll 137 0
  | .lit138 => .ll 138 0
  | .lit139 => .ll 139 0
  | .lit140 => .ll 140 0
  | .lit141 => .ll 141 0
  | .lit142 => .ll 142 0
  | .lit143 => .ll 143 0
  | .lit144 => .ll 144 0
  | .lit145 => .ll 145 0
  | .lit146 => .ll 146 0
  | .lit147 => .ll 147 0
  | .lit148 => .ll 148 0
  | .lit149 => .ll 149 0
  | .lit150 => .ll 150 0
  | .lit151 => .ll 151 0
  | .lit152 => .ll 152 0
  | .lit153 => .ll 153 0
  | .lit154 => .ll 154 0
  | .lit155 => .ll 155 0
  | .lit156 => .ll 156 0
  | .lit157 => .ll 157 0
  | .lit158 => .ll 158 0
  | .lit159 => .ll 159 0
  | .lit160 => .ll 160 0
  | .lit161 => .ll 161 0
  | .lit162 => .ll 162 0
  | .lit163 => .ll 163 0
  | .lit164 => .ll 164 0
  | .lit165 => .ll 165 0
  | .lit166 => .ll 166 0
  | .lit167 => .ll 167 0
  | .lit168 => .ll 168 0
  | .lit169 => .ll 169 0
  | .lit170 => .ll 170 0
  | .lit171 => .ll 171 0
  | .lit172 => .ll 172 0
  | .lit173 => .ll 173 0
  | .lit174 => .ll 174 0
  | .lit175 => .ll 175 0
  | .lit176 => .ll 176 0
  | .lit177 => .ll 177 0
  | .lit178 => .ll 178 0
  | .lit179 => .ll 179 0
  | .lit180 => .ll 180 0
  | .lit181 => .ll 181 0
  | .lit182 => .ll 182 0
  | .lit183 => .ll 183 0
  | .lit184 => .ll 184 0
  | .lit185 => .ll 185 0
  | .lit186 => .ll 186 0
  | .lit187 => .ll 187 0
  | .lit188 => .ll 188 0
  | .lit189 => .ll 189 0
  | .lit190 => .ll 190 0
  | .lit191 => .ll 191 0
  | .lit192 => .ll 192 0
  | .lit193 => .ll 193 0
  | .lit194 => .ll 194 0
  | .lit195 => .ll 195 0
  | .lit196 => .ll 196 0
  | .lit197 => .ll 197 0
  | .lit198 => .ll 198 0
  | .lit199 => .ll 199 0
  | .lit200 => .ll 200 0
  | .lit201 => .ll 201 0
  | .lit202 => .ll 202 0
  | .lit203 => .ll 203 0
  | .lit204 => .ll 204 0
  | .lit205 => .ll 205 0
  | .lit206 => .ll 206 0
  | .lit207 => .ll 207 0
  | .lit208 => .ll 208 0
  | .lit209 => .ll 209 0
  | .lit210 => .ll 210 0
  | .lit211 => .ll 211 0
  | .lit212 => .ll 212 0
  | .lit213 => .ll 213 0
  | .lit214 => .ll 214 0
  | .lit215 => .ll 215 0
  | .lit216 => .ll 216 0
  | .lit217 => .ll 217 0
  | .lit218 => .ll 218 0
  | .lit219 => .ll 219 0
  | .lit220 => .ll 220 0
  | .lit221 => .ll 221 0
  | .lit222 => .ll 222 0
  | .lit223 => .ll 223 0
  | .lit224 => .ll 224 0
  | .lit225 => .ll 225 0
  | .lit226 => .ll 226 0
  | .lit227 => .ll 227 0
  | .lit228 => .ll 228 0
  | .lit229 => .ll 229 0
  | .lit230 => .ll 230 0
  | .lit231 => .ll 231 0
  | .lit232 => .ll 232 0
  | .lit233 => .ll 233 0
  | .lit234 => .ll 234 0
  | .lit235 => .ll 235 0
  | .lit236 => .ll 236 0
  | .lit237 => .ll 237 0
  | .lit238 => .ll 238 0
  | .lit239 => .ll 239 0
  | .lit240 => .ll 240 0
  | .lit241 => .ll 241 0
  | .lit242 => .ll 242 0
  | .lit243 => .ll 243 0
  | .lit244 => .ll 244 0
  | .lit245 => .ll 245 0
  | .lit246 => .ll 246 0
  | .lit247 => .ll 247 0
  | .lit248 => .ll 248 0
  | .lit249 => .ll 249 0
  | .lit250 => .ll 250 0
  | .lit251 => .ll 251 0
  | .lit252 => .ll 252 0
  | .lit253 => .ll 253 0
  | .lit254 => .ll 254 0
  | .lit255 => .ll 255 0
  | .eob => .ll 256 0
  | .len257 => .ll 257 0
  | .len258 => .ll 258 0
  | .len259 => .ll 259 0
  | .len260 => .ll 260 0
  | .len261 => .ll 261 0
  | .len262 => .ll 262 0
  | .len263 => .ll 263 0
  | .len264 => .ll 264 0
  | .len265 x => .ll 265 x.toNat
  | .len266 x => .ll 266 x.toNat
  | .len267 x => .ll 267 x.toNat
  | .len268 x => .ll 268 x.toNat
  | .len269 x => .ll 269 x.toNat
  | .len270 x => .ll 270 x.toNat
  | .len271 x => .ll 271 x.toNat
  | .len272 x => .ll 272 x.toNat
  | .len273 x => .ll 273 x.toNat
  | .len274 x => .ll 274 x.toNat
  | .len275 x => .ll 275 x.toNat
  | .len276 x => .ll 276 x.toNat
  | .len277 x => .ll 277 x.toNat
  | .len278 x => .ll 278 x.toNat
  | .len279 x => .ll 279 x.toNat
  | .len280 x => .ll 280 x.toNat
  | .len281 x => .ll 281 x.toNat
  | .len282 x => .ll 282 x.toNat
  | .len283 x => .ll 283 x.toNat
  | .len284 x => .ll 284 x.toNat
  | .len285 => .ll 285 0
  | .llInvalid286 => .ll 286 0
  | .llInvalid287 => .ll 287 0
  | .dist0 => .dist 0 0
  | .dist1 => .dist 1 0
  | .dist2 => .dist 2 0
  | .dist3 => .dist 3 0
  | .dist4 x => .dist 4 x.toNat
  | .dist5 x => .dist 5 x.toNat
  | .dist6 x => .dist 6 x.toNat
  | .dist7 x => .dist 7 x.toNat
  | .dist8 x => .dist 8 x.toNat
  | .dist9 x => .dist 9 x.toNat
  | .dist10 x => .dist 10 x.toNat
  | .dist11 x => .dist 11 x.toNat
  | .dist12 x => .dist 12 x.toNat
  | .dist13 x => .dist 13 x.toNat
  | .dist14 x => .dist 14 x.toNat
  | .dist15 x => .dist 15 x.toNat
  | .dist16 x => .dist 16 x.toNat
  | .dist17 x => .dist 17 x.toNat
  | .dist18 x => .dist 18 x.toNat
  | .dist19 x => .dist 19 x.toNat
  | .dist20 x => .dist 20 x.toNat
  | .dist21 x => .dist 21 x.toNat
  | .dist22 x => .dist 22 x.toNat
  | .dist23 x => .dist 23 x.toNat
  | .dist24 x => .dist 24 x.toNat
  | .dist25 x => .dist 25 x.toNat
  | .dist26 x => .dist 26 x.toNat
  | .dist27 x => .dist 27 x.toNat
  | .dist28 x => .dist 28 x.toNat
  | .dist29 x => .dist 29 x.toNat
  | .distInvalid30 => .dist 30 0
  | .distInvalid31 => .dist 31 0
  | .reset => .command 0
  | .decode => .command 1
  | .addHistory => .command 2
  | .workbufLen => .command 3

/-- The element each instruction is. -/
def Instr.slot (i : Instr) : Slot :=
  match i.shape with
  | .header _ _ => .header
  | .pad n _ => .pad n
  | .storedLen _ _ => .storedLen
  | .storedByte _ => .storedByte
  | .dynHdr _ _ _ => .dynHdr
  | .cll _ => .cll
  | .cl _ _ => .cl
  | .ll _ _ => .ll
  | .dist _ _ => .dist
  | .command _ => .command

/-- The instruction of a shape: the inverse of `Instr.shape`. -/
def Shape.instr : Shape → Option Instr
  | .header btype final => some (decodeHeader (BitVec.ofNat 3 (btype * 2 + final.toNat)))
  | .pad n p => some (.alignPad n p)
  | .storedLen len nlen => some (.storedLen len nlen)
  | .storedByte b => some (.storedByte b)
  | .dynHdr hlit hdist hclen => some (.dynHdr hlit hdist hclen)
  | .cll l => some (.cll l)
  | .cl s x => clInstr s x
  | .ll s x => llInstr s x
  | .dist s x => distInstr s x
  | .command c => some (decodeCommand (BitVec.ofNat 2 c))

/-- A Huffman symbol followed by its `nx` extra bits: the code reversed, first stream bit lowest (R66), then `x` (R101). -/
def encodeSymbol (lens : List Nat) (s nx x : Nat) : Nat × Nat :=
  let L := lens.getD s 0
  (revBits L (codeOf lens s) + 2 ^ L * x, L + nx)

/-- The stream bits of an instruction, first stream bit lowest, and their number. `lens` are the code lengths of the symbol's
alphabet (R100); the other elements ignore it. -/
def encode (lens : List Nat) (i : Instr) : Nat × Nat :=
  match i.shape with
  | .header btype final => (btype * 2 + final.toNat, 3)
  | .pad n p => (p.toNat, n.toNat)
  | .storedLen len nlen => (len.toNat + 2 ^ 16 * nlen.toNat, 32)
  | .storedByte b => (b.toNat, 8)
  | .dynHdr hlit hdist hclen => (hlit.toNat + 2 ^ 5 * hdist.toNat + 2 ^ 10 * hclen.toNat, 14)
  | .cll l => (l.toNat, 3)
  | .cl s x => encodeSymbol lens s (repeatExtra s) x
  | .ll s x => encodeSymbol lens s (if s < 257 then 0 else lenExtra.getD (s - 257) 0) x
  | .dist s x => encodeSymbol lens s (distExtra.getD s 0) x
  | .command c => (c, 2)

end Sys2Proof
end

