-- ==== Sys2Proof/Machine/Fetch.lean ====
section
/-! DEFINITION. What the engine does next: the instruction it reads, by FSM (46_host.md R341, R350; 30_encoding.md R90), or a move
of its own where no instruction begins (a transient state, a resumed half-done instruction, the end of a loop). -/

namespace Sys2Proof.Machine

/-- An instruction with the state once its bits are consumed, or the engine's own move. -/
inductive Fetched where
  | instr (i : Instr) (s : State)
  | engine (o : Result)

/-- Continue with the value read; a suspension, an error or a fault of the bit reader is the engine's own move. -/
def Res.fetch {α : Type} (r : Res α) (k : α → State → Fetched) : Fetched :=
  match r with
  | .val a s => k a s
  | .stop o => .engine o

/-- The instruction found, or the engine's own move where the entry names none, which no built table gives. -/
def Fetched.ofInstr (i : Option Instr) (s : State) (o : Result) : Fetched :=
  match i with
  | some i => .instr i s
  | none => .engine o

/-- STORED_COPY's loop test and checks (R195), output space before input. The byte read is a pass inside the state's loop. -/
def fetchStored (s : State) : Fetched :=
  if s.loc.rem = 0 then .engine (.next { s with fsm := .blockEnd, inLoop := false })
  else if s.port.dstPtr = s.port.dstEnd then .engine (.next (s.suspend .shortWrite))
  else if s.port.srcPtr = s.port.srcEnd then .engine (.next s.inputExhausted)
  else if s.inSpace s.port.srcPtr then
    .instr (.storedByte (s.mem.read s.port.srcPtr))
      { s with inLoop := true, port := { s.port with srcPtr := s.port.srcPtr + 1 } }
  else .engine (.fault .noSuchAddress)

/-- DYN_LENS_SYM (R224). A repeat symbol is latched before its extra bits are read; symbol 16 at `I = 0` is reported with none of
them read (R225). -/
def fetchCL (s : State) : Fetched :=
  if s.loc.i.toNat = s.lensTotal then .engine (.next { s with fsm := .dynBuild })
  else
    (decodeSym s.tab0 s).fetch fun y s1 =>
      let sym := (entryPayload y.entry).toNat
      if entryKind y.entry ≠ .lit then .engine (.next (s1.raise .internalHuffmanState))
      else if sym < 16 ∨ (sym = 16 ∧ s1.loc.i = 0) then
        .ofInstr (clInstr sym 0) s1 (.next (s1.raise .internalHuffmanState))
      else
        (take (repeatExtra sym) (s1.latchRepeat (BitVec.ofNat 5 sym))).fetch fun x s2 =>
          .ofInstr (clInstr sym x.toNat) s2 (.next (s2.raise .internalHuffmanState))

/-- DYN_LENS_EXTRA resumed (R226). -/
def resumeRepeat (s : State) : Fetched :=
  if repeatExtra s.loc.repsym.toNat = 0 then .engine (.next (s.raise .internalHuffmanState))
  else (take (repeatExtra s.loc.repsym.toNat) s).fetch fun x s1 => .engine (applyRepeat x.toNat s1)

/-- LL_SYM, and LEN_EXTRA behind a length symbol (R261, R264). -/
def fetchLL (s : State) : Fetched :=
  (decodeSym s.tab0 s).fetch fun y s1 =>
    match entryKind y.entry with
    | .lit => .ofInstr (litEntryInstr y.entry) s1 (.next (s1.raise .internalHuffmanState))
    | .eob => .instr .eob s1
    | .base =>
      (take ((entryNX y.entry).setWidth 3).toNat
          (s1.latchLen ((entryPayload y.entry).setWidth 9) ((entryNX y.entry).setWidth 3))).fetch fun x s2 =>
        .ofInstr (lenEntryInstr y.entry x.toNat) s2 (finishLength x.toNat s2)
    | .invalid => .ofInstr (llReserved y.code y.len) s1 (badCode s1)
    | _ => .engine (.next (s1.raise .internalHuffmanState))

/-- DIST_SYM, and DIST_EXTRA behind it (R265, R266). -/
def fetchDist (s : State) : Fetched :=
  (decodeSym s.tab1 s).fetch fun y s1 =>
    match entryKind y.entry with
    | .base =>
      (take (entryNX y.entry).toNat
          (s1.latchDist ((entryPayload y.entry).setWidth 15) (entryNX y.entry))).fetch fun x s2 =>
        .ofInstr (distEntryInstr y.entry x.toNat) s2 (finishDist x.toNat s2)
    | .invalid => .ofInstr (distReserved y.code y.len) s1 (badCode s1)
    | _ => .engine (.next (s1.raise .internalHuffmanState))

/-- DYN_CLL's loop test (R222): the next length, a pass inside the state's loop, or the end of the state. -/
def fetchCll (s : State) : Fetched :=
  if s.loc.i.toNat < s.loc.hclen.toNat then
    (take 3 s).fetch fun v s1 => .instr (.cll (v.setWidth 3)) { s1 with inLoop := true }
  else .engine (cllDone s)

/-- One pass of DECODE's loop: the state FSM names (R24, R341). -/
def fetchElement (s : State) : Fetched :=
  match s.fsm with
  | .hdr => (take 3 s).fetch fun v s1 => .instr (decodeHeader (v.setWidth 3)) s1
  | .storedLen => (take 32 s).fetch fun v s1 => .instr (decodeStoredLen v) s1
  | .storedCopy => fetchStored s
  | .fixedInit => .engine (fixedInit s)
  | .dynHdr => (take 14 s).fetch fun v s1 => .instr (decodeDynHdr (v.setWidth 14)) s1
  | .dynCll => fetchCll s
  | .dynLensSym => fetchCL s
  | .dynLensExtra => resumeRepeat s
  | .dynBuild => .engine (dynBuild s)
  | .llSym => fetchLL s
  | .litOut => .engine (litOut s)
  | .lenExtra => (take s.loc.lnx.toNat s).fetch fun x s1 => .engine (finishLength x.toNat s1)
  | .distSym => fetchDist s
  | .distExtra => (take s.loc.dnx.toNat s).fetch fun x s1 => .engine (finishDist x.toNat s1)
  | .copy => .engine (copyRun s)
  | .blockEnd => .engine (blockEnd s)
  | .done => .engine (.next (s.finish .ok))

/-- `GiveBack` on whatever a fast pass ends with (R138, R270 condition 2). -/
def Fetched.giveBack : Fetched → Fetched
  | .instr i s => .instr i s.giveBack
  | .engine (.next s) => .engine (.next s.giveBack)
  | .engine o => .engine o

/-- What a busy engine does next: the command just written, or the next pass of a started DECODE. The fast variant (R270) is the
same pass with bytes read ahead and given back. -/
def fetch (s : State) : Fetched :=
  if s.decoding then
    if s.fastReady then (fetchElement s.readAhead).giveBack else fetchElement s
  else .instr (decodeCommand s.port.cmd) s

end Sys2Proof.Machine
end

