-- ==== Sys2Proof/Machine/Place.lean ====
section
/-! DEFINITION. A state in which a given instruction is the next one: what stands behind State.withFetchWord (log 10). The engine
does not fetch at a program counter alone: the host's command, FSM, the tables and the loop counters select what comes next, so
all of these are set; the element's bits are laid out as input bytes at `SRC_PTR`. -/

namespace Sys2Proof.Machine

/-- A complete CL code that gives every CL symbol a code: 13 of length 4, 6 of length 5. -/
def placeCL : List Nat := List.replicate 13 4 ++ List.replicate 6 5

/-- The code lengths a slot's symbol is encoded with. -/
def placeLens : Slot → List Nat
  | .cl => placeCL
  | .ll => fixedLL
  | .dist => fixedD
  | _ => []

/-- The bytes of the stream bits `v`, lowest first (R64). -/
def streamBytes (v : Nat) : Nat → List Byte
  | 0 => []
  | n + 1 => BitVec.ofNat 8 v :: streamBytes (v / 256) n

/-- The `n` stream bits `v` as the whole of the available input, with none held. -/
def State.placeBits (s : State) (v n : Nat) : State :=
  { s with
    bits := 0, nbits := 0
    mem := s.mem.writeBytes s.port.srcPtr (streamBytes v ((n + 7) / 8))
    port := { s.port with srcEnd := s.port.srcPtr + (n + 7) / 8 } }

/-- What a started DECODE needs in order to read the slot next: FSM, and the counters and tables that state looks at. -/
def State.placeSlot (s : State) : Slot → State
  | .command => s
  | .header => { s with fsm := .hdr }
  | .pad _ => { s with fsm := .hdr }
  | .storedLen => { s with fsm := .storedLen }
  | .storedByte =>
    { s with
      fsm := .storedCopy, loc := { s.loc with rem := 1 }
      port := { s.port with dstPtr := s.port.srcPtr + 1, dstEnd := s.port.srcPtr + 2 } }
  | .dynHdr => { s with fsm := .dynHdr }
  | .cll => { s with fsm := .dynCll, loc := { s.loc with i := 0, hclen := 19 } }
  | .cl =>
    { s with fsm := .dynLensSym, loc := { s.loc with i := 0, hlit := 257, hdist := 1 }, tab0 := tableOf .cl placeCL }
  | .ll => { s with fsm := .llSym, tab0 := tableOf .ll fixedLL }
  | .dist => { s with fsm := .distSym, tab1 := tableOf .d fixedD }

/-- The state with instruction `i` next. -/
def State.place (s : State) (i : Instr) : State :=
  let s1 := { s with busy := true, inLoop := false, interleaved := false }
  match i.shape with
  | .command c => { s1 with decoding := false, port := { s1.port with cmd := BitVec.ofNat 2 c } }
  | _ =>
    let e := encode (placeLens i.slot) i
    ({ s1 with decoding := true, port := { s1.port with cmd := 1 } }.placeSlot i.slot).placeBits e.1 e.2

end Sys2Proof.Machine
end

