-- ==== Sys2Proof/Machine/Step.lean ====
section
/-! DEFINITION. One step of the engine: one instruction, or one move of its own. -/

namespace Sys2Proof.Machine

/-- What a busy engine does: the instruction it fetches, or its own move. -/
def pass (s : State) : Host.Outcome State Fault Refusal :=
  match fetch s with
  | .instr i s1 => exec i s1
  | .engine o => o

/-- One step. Idle, the engine holds all state (R385). Busy, it reports an interleaved command at the state boundary (R332, R377,
log 6), and otherwise makes a pass. -/
def step (s : State) : Host.Outcome State Fault Refusal :=
  if s.busy then
    if s.reportDue then .next (s.raise .interleaved) else settleOwed s.interleaved (pass s)
  else .next s

/-- `s` with the instruction the table word `w` stands for as its next; unchanged where the word is none (log 10). -/
def State.withFetchWord (s : State) (nbits w : Nat) : State :=
  match decodeTableWord nbits w with
  | some i => s.place i
  | none => s

end Sys2Proof.Machine
end

