-- ==== Sys2Proof/Machine/HostPort.lean ====
section
/-! DEFINITION. The host's side of the interface (10_state.md R40, 46_host.md R331, R332): what the other agent can do between the
engine's steps. None of it is a step. -/

namespace Sys2Proof.Machine

/-- What interface register `n` reads as, where R40 gives the host read access. -/
def readRegister (n : Nat) (s : State) : Option Nat :=
  match n with
  | 1 => some s.port.status.code.toNat
  | 2 => some s.port.srcPtr
  | 5 => some s.port.dstPtr
  | 11 => some s.port.wbMin
  | 12 => some s.port.wbMax
  | 13 => some s.flags.toNat
  | _ => none

/-- The host reads interface register `n`. While `BUSY = 1` it may read `FLAGS` alone, to wait for the end of the command; a read of
any other register is refused, so that no effect of a command is seen before its end (R72, R331, R360, R424). That the refusal
covers every register but `FLAGS` is the model's choice: the rules say that the host makes no access then, and R420 duty 3 names
interface writes only (log 13). -/
def hostRead (n : Nat) (s : State) : Except Refusal Nat :=
  match readRegister n s with
  | some v => if s.busy && n != 13 then .error .hostAccessWhileBusy else .ok v
  | none => .error .noHostAccess

/-- The engine's reaction to a write of `CMD`: BUSY is set (R331), or, while `BUSY = 1`, the second command is not started and the
interleaving is to be reported at the next state boundary (R332, log 6). That `CMD` then keeps the running command's value is the
model's choice: R332 and R377 do not say what it holds, no host can read it, and nothing reads it before the next write (log 6). -/
def hostCommand (c : BitVec 2) (s : State) : State :=
  if s.busy then { s with interleaved := true } else { s with busy := true, port := { s.port with cmd := c } }

/-- The port with operand register `n` holding `v`, where R40 gives the host write access: the low `w` bits of an address or a
length, the low bit of `SRC_CLOSED` (log 15). -/
def writeOperand (w n v : Nat) (p : Port) : Option Port :=
  match n with
  | 2 => some { p with srcPtr := v % 2 ^ w }
  | 3 => some { p with srcEnd := v % 2 ^ w }
  | 4 => some { p with srcClosed := decide (v % 2 = 1) }
  | 5 => some { p with dstPtr := v % 2 ^ w }
  | 6 => some { p with dstEnd := v % 2 ^ w }
  | 7 => some { p with wbPtr := v % 2 ^ w }
  | 8 => some { p with wbLen := v % 2 ^ w }
  | 9 => some { p with hbPtr := v % 2 ^ w }
  | 10 => some { p with hbLen := v % 2 ^ w }
  | _ => none

/-- The host writes interface register `n`, which takes the low bits it has room for (log 15). While `BUSY = 1` every write is
refused: one of `CMD` because a model refuses that run (R332), of another register by R420 duty 3. -/
def hostWrite (n v : Nat) (s : State) : Result :=
  if s.busy then .refused (if n = 0 then .interleavedCommand else .hostAccessWhileBusy)
  else if n = 0 then .next (hostCommand (BitVec.ofNat 2 v) s)
  else
    match writeOperand s.par.addrW n v s.port with
    | some p => .next { s with port := p }
    | none => .refused .noHostAccess

/-- The host writes a byte of its memory; not while `BUSY = 1` (R420 duty 3; that this covers all of host memory and not only the
three ranges is the model's choice, log 13). -/
def hostStore (a : Nat) (v : Byte) (s : State) : Result :=
  if s.busy then .refused .hostAccessWhileBusy
  else if s.inSpace a then .next { s with mem := s.mem.write a v }
  else .fault .noSuchAddress

end Sys2Proof.Machine
end

