-- ==== Sys2Proof/Safety.lean ====
section
/-! DEFINITION. The terms claims are stated in: the invariants of the state, and what a safe answer is. -/

namespace Sys2Proof.Machine

/-- The accumulator invariant (R21, R22, R135): no bit at or above NBITS, and at most 32 bits held. -/
abbrev State.AccOk (s : State) : Prop := s.bits.toNat < 2 ^ s.nbits.toNat ∧ s.nbits.toNat ≤ 32

/-- Host memory is in canonical form. -/
abbrev State.MemOk (s : State) : Prop := s.mem.wf = true

/-- The window's two counters are one logical index (R35): `HFILL` is it, saturated at 32768, and until then `HIDX` equals it. -/
abbrev State.WindowOk (s : State) : Prop :=
  s.win.hfill.toNat ≤ 32768 ∧ (s.win.hfill.toNat < 32768 → s.win.hidx.toNat = s.win.hfill.toNat)

/-- The cursors are ordered (R41). -/
abbrev State.CursorsOk (s : State) : Prop := s.port.srcPtr ≤ s.port.srcEnd ∧ s.port.dstPtr ≤ s.port.dstEnd

/-- The address lies in the input range (R41). -/
abbrev State.InSource (s : State) (a : Nat) : Prop := s.port.srcPtr ≤ a ∧ a < s.port.srcEnd

/-- The address lies in the output range (R41). -/
abbrev State.InOutput (s : State) (a : Nat) : Prop := s.port.dstPtr ≤ a ∧ a < s.port.dstEnd

/-- The address lies in the ADD_HISTORY range (R41). -/
abbrev State.InHistoryRange (s : State) (a : Nat) : Prop := s.port.hbPtr ≤ a ∧ a < s.port.hbPtr + s.port.hbLen

/-- Every address and length register fits its `P_ADDR_W` bits (R40). -/
abbrev State.PortOk (s : State) : Prop :=
  s.port.srcPtr < 2 ^ s.par.addrW ∧ s.port.srcEnd < 2 ^ s.par.addrW ∧ s.port.dstPtr < 2 ^ s.par.addrW ∧
  s.port.dstEnd < 2 ^ s.par.addrW ∧ s.port.wbPtr < 2 ^ s.par.addrW ∧ s.port.wbLen < 2 ^ s.par.addrW ∧
  s.port.hbPtr < 2 ^ s.par.addrW ∧ s.port.hbLen < 2 ^ s.par.addrW ∧ s.port.wbMin < 2 ^ s.par.addrW ∧
  s.port.wbMax < 2 ^ s.par.addrW

/-- The model's own command bits: only a busy engine is inside DECODE's loop or owes an interleaving report (log 1, log 6), inside
the loop the command is DECODE, and only DYN_CLL and STORED_COPY loop inside a state. -/
abbrev State.ControlOk (s : State) : Prop :=
  (s.decoding = true → s.busy = true ∧ s.port.cmd = 1) ∧ (s.interleaved = true → s.busy = true) ∧
  (s.inLoop = true → s.decoding = true ∧ (s.fsm = .dynCll ∨ s.fsm = .storedCopy))

/-- The state invariant that every step keeps. -/
abbrev State.Inv (s : State) : Prop := s.AccOk ∧ s.MemOk ∧ s.WindowOk ∧ s.ControlOk

/-- The answer is a next state. -/
abbrev Completes (o : Result) : Prop := ∃ t, o = .next t

/-- A safe answer: no fault. A refusal is the model's own stop, and safe. -/
abbrev SafeResult (o : Result) : Prop := ∀ f, o ≠ .fault f

/-- The command has ended with status `st` (R331). -/
abbrev State.EndedWith (t : State) (st : Status) : Prop :=
  t.busy = false ∧ t.decoding = false ∧ t.port.status = st

/-- Every entry of a table that is not EMPTY consumes at least one bit (R150: `NB` is 1 to 9). -/
abbrev TableProgress (t : Table) : Prop := ∀ i, entryKind (readTable t i) ≠ .empty → 1 ≤ (entryNB (readTable t i)).toNat

/-- Every BASE entry of a table is one of the length symbols' (R104, R156). -/
abbrev LengthEntries (t : Table) : Prop :=
  ∀ i, entryKind (readTable t i) = .base →
    ∃ j, j < 29 ∧ (entryPayload (readTable t i)).toNat = lenBase.getD j 0 ∧ (entryNX (readTable t i)).toNat = lenExtra.getD j 0

/-- Every BASE entry of a table is one of the distance symbols' (R105, R156). -/
abbrev DistanceEntries (t : Table) : Prop :=
  ∀ i, entryKind (readTable t i) = .base →
    ∃ j, j < 30 ∧ (entryPayload (readTable t i)).toNat = distBase.getD j 0 ∧ (entryNX (readTable t i)).toNat = distExtra.getD j 0

/-- Each arena holds BASE entries of its own alphabet only. -/
abbrev State.EntriesOk (s : State) : Prop := LengthEntries s.tab0 ∧ DistanceEntries s.tab1

/-- Both arenas hold such tables. -/
abbrev State.TablesOk (s : State) : Prop := TableProgress s.tab0 ∧ TableProgress s.tab1

/-- The host has extended the input to end at `e` (R352). -/
def State.withInput (s : State) (e : Nat) : State := { s with port := { s.port with srcEnd := e } }

/-- The host has extended the output to end at `e` (R352). -/
def State.withOutput (s : State) (e : Nat) : State := { s with port := { s.port with dstEnd := e } }

/-- The suspended state `t` once a new DECODE has entered its loop (R375, R376), with STATUS as it stood in `s` before the
suspension: the host's write of `CMD` and the loop's entry change nothing else. -/
def State.reissued (t s : State) : State :=
  { t with busy := true, decoding := true, port := { t.port with status := s.port.status } }

/-- The Kraft sum over the lengths 1 to 15, times 2^15 (R154). -/
def kraftSum (lens : List Nat) : Nat :=
  ((shortLengths ++ longLengths).map fun L => codeCount lens L * 2 ^ (15 - L)).sum

/-- The ranges of R27 and R28 and the checks the states have made before they are left: the counters of a dynamic header, the length
of a match from its latch to its last byte, the base of its distance, and the distance a copy runs with. `REM` of a stored block
has the whole range of its 16 bits. -/
abbrev State.CountersOk (s : State) : Prop :=
  (s.fsm = .dynCll → s.loc.i.toNat ≤ s.loc.hclen.toNat ∧ 4 ≤ s.loc.hclen.toNat ∧ s.loc.hclen.toNat ≤ 19) ∧
  (s.fsm = .dynCll ∨ s.fsm = .dynLensSym ∨ s.fsm = .dynLensExtra ∨ s.fsm = .dynBuild →
    257 ≤ s.loc.hlit.toNat ∧ s.loc.hlit.toNat ≤ 286 ∧ 1 ≤ s.loc.hdist.toNat ∧ s.loc.hdist.toNat ≤ 30) ∧
  (s.fsm = .dynLensSym ∨ s.fsm = .dynLensExtra → s.loc.i.toNat ≤ s.lensTotal) ∧
  (s.fsm = .dynBuild → s.loc.i.toNat = s.lensTotal) ∧
  (s.fsm = .lenExtra → 3 ≤ s.loc.lbase.toNat ∧ s.loc.lbase.toNat + 2 ^ s.loc.lnx.toNat ≤ 259) ∧
  (s.fsm = .distSym ∨ s.fsm = .distExtra → 3 ≤ s.loc.length.toNat ∧ s.loc.length.toNat ≤ 258) ∧
  (s.fsm = .distExtra → 1 ≤ s.loc.dbase.toNat ∧ s.loc.dbase.toNat + 2 ^ s.loc.dnx.toNat ≤ 32769) ∧
  (s.fsm = .copy →
    1 ≤ s.loc.dist.toNat ∧ s.loc.dist.toNat ≤ s.win.hfill.toNat ∧ 1 ≤ s.loc.rem.toNat ∧ s.loc.rem.toNat ≤ 258)

/-- A next state, changed by `f`; a fault or a refusal as it is. -/
def mapNext (f : State → State) (o : Result) : Result :=
  match o with
  | .next s => .next (f s)
  | .fault e => .fault e
  | .refused r => .refused r

/-- The same machine with or without the fast variant (R7, R270). -/
def State.withFast (s : State) (b : Bool) : State := { s with par := { s.par with fast := b } }

/-- The same machine with another workbuf constant (R342). -/
def State.withWorkbuf (s : State) (n : Nat) : State := { s with par := { s.par with workbuf := n } }

/-- The same machine beside another host memory. -/
def State.withMem (s : State) (m : Mem) : State := { s with mem := m }

/-- `n` bytes of host memory from address `a` up, the first lowest (R64, R65). -/
def inputValue (m : Mem) (a : Nat) : Nat → Nat
  | 0 => 0
  | n + 1 => (m.read a).toNat + 256 * inputValue m (a + 1) n

/-- The stream bits not yet consumed, the next one lowest (R23): those held, then those of the available input. -/
def State.streamValue (s : State) : Nat :=
  s.bits.toNat + 2 ^ s.nbits.toNat * inputValue s.mem s.port.srcPtr (s.port.srcEnd - s.port.srcPtr)

/-- How many they are. -/
def State.streamLen (s : State) : Nat := s.nbits.toNat + 8 * (s.port.srcEnd - s.port.srcPtr)

/-- The command ends within `n` steps: the engine is idle, or has stopped with a fault or a refusal. -/
def endsWithin : Nat → State → Bool
  | 0, s => !s.busy
  | n + 1, s =>
    if s.busy then
      match step s with
      | .next t => endsWithin n t
      | .fault _ => true
      | .refused _ => true
    else true

/-- The code lengths of an alphabet the builder is given: no more symbols than the largest alphabet has, 4-bit lengths (R152,
R153). -/
abbrev LensOk (lens : List Nat) : Prop := lens.length ≤ 288 ∧ ∀ l ∈ lens, l ≤ 15

/-- `t` is what `Build(A, k, lens)` gives. -/
abbrev BuiltFrom (p : Params) (A : Alphabet) (lens : List Nat) (t : Table) : Prop := LensOk lens ∧ build p A lens = .ok t

/-- The alphabet of a Huffman-coded slot (R96, R98, R99). -/
def slotAlphabet : Slot → Option Alphabet
  | .cl => some .cl
  | .ll => some .ll
  | .dist => some .d
  | _ => none

/-- The table `State.place` reads a slot with: the fixed one for LL and D symbols (R102). -/
def placeTable : Slot → Table
  | .cl => tableOf .cl placeCL
  | .ll => tableOf .ll fixedLL
  | .dist => tableOf .d fixedD
  | _ => Vector.replicate 1024 0

/-- A DECODE is under way: the next step is a pass of its loop. -/
abbrev State.Decoding (s : State) : Prop := s.busy = true ∧ s.decoding = true ∧ s.interleaved = false

/-- There is room for `n` more output bytes, at addresses that exist. -/
abbrev State.Room (s : State) (n : Nat) : Prop := s.port.dstPtr + n ≤ s.port.dstEnd ∧ s.port.dstEnd ≤ 2 ^ s.par.addrW

/-- The element a started DECODE awaits, where `FSM` awaits one that is read through the accumulator (R90). -/
def State.awaits (s : State) : Option (Slot × Table) :=
  match s.fsm with
  | .hdr => some (.header, s.tab0)
  | .storedLen => some (.storedLen, s.tab0)
  | .dynHdr => some (.dynHdr, s.tab0)
  | .dynCll => if s.loc.i.toNat < s.loc.hclen.toNat then some (.cll, s.tab0) else none
  | .dynLensSym => if s.loc.i.toNat = s.lensTotal then none else some (.cl, s.tab0)
  | .llSym => some (.ll, s.tab0)
  | .distSym => some (.dist, s.tab1)
  | _ => none

/-- The state once every input byte is moved into the accumulator and the first `k` stream bits have left it (R131, R134). -/
def State.drained (s : State) (k : Nat) : State :=
  { s with
    bits := BitVec.ofNat 32 (s.streamValue / 2 ^ k), nbits := BitVec.ofNat 6 (s.streamLen - k)
    port := { s.port with srcPtr := s.port.srcEnd } }

/-- A slow pass is about to read the element of `slot` from its stream, at addresses that exist: with the accumulator in order, byte
aligned for a length word as R192 leaves it, and `tab` a built table where the slot has an alphabet. -/
abbrev State.Reads (s : State) (slot : Slot) (tab : Table) : Prop :=
  s.Decoding ∧ s.fastReady = false ∧ s.awaits = some (slot, tab) ∧ s.AccOk ∧ s.CursorsOk ∧ s.port.srcEnd ≤ 2 ^ s.par.addrW ∧
  (slot = .storedLen → s.nbits.toNat % 8 = 0) ∧ ∀ A, slotAlphabet slot = some A → ∃ lens, BuiltFrom s.par A lens tab

/-- The bits that an element of `slot`, or the code of its symbol, takes from a stream that begins with `w`, the bits past its end 0
(R90, R162). -/
def slotNeeds (slot : Slot) (tab : Table) (w : Acc) : Nat :=
  match slot with
  | .header => 3
  | .storedLen => 32
  | .dynHdr => 14
  | .cll => 3
  | .cl => (lookup tab w).2
  | .ll => (lookup tab w).2
  | .dist => (lookup tab w).2
  | _ => 0

end Sys2Proof.Machine
end

