-- ==== Sys2Proof/Certificates/Slice0/Obligations.lean ====
section
/-! DEFINITION. The statements for the provers, from the numbered rules of spec/. -/

open Sys2Proof Sys2Proof.Machine

/-! ### Reset, idling, the traps and the shared registers -/

/-- The engine after reset meets every invariant stated below, in every configuration (R413). Much of this rests on values that are
the model's choice: the zeros of the tables (log 3) and of the operand registers (log 4), the empty memory (log 5), and the
model's own command bits, all 0 (logs 1 and 6). -/
def Obligations.ResetMeetsInvariants : Prop :=
  ∀ p, (State.resetWith p).Inv ∧ (State.resetWith p).CursorsOk ∧ (State.resetWith p).PortOk ∧
    (State.resetWith p).CountersOk ∧ (State.resetWith p).TablesOk ∧ (State.resetWith p).EntriesOk

/-- R49: the state after RESET, from any state. The rule leaves LENS, TAB and HIST unspecified, and so does this. -/
def Obligations.ResetState : Prop :=
  ∀ s : State, ∃ t, exec .reset s = .next t ∧
    t.bits = 0 ∧ t.nbits = 0 ∧ t.fsm = .hdr ∧ t.bfinal = false ∧ t.btype = 0 ∧ t.eob = false ∧ t.disabled = false ∧
    t.busy = false ∧ t.loc = Locals.zero ∧ t.win.hidx = 0 ∧ t.win.hfill = 0 ∧ t.port.status = .ok ∧
    t.port.wbMin = 0 ∧ t.port.wbMax = 0

/-- R411: RESET writes no operand register, no configuration and no byte of host memory. -/
def Obligations.ResetFrame : Prop :=
  ∀ s t : State, exec .reset s = .next t →
    t.port = { s.port with status := .ok, wbMin := 0, wbMax := 0 } ∧ t.par = s.par ∧ t.mem = s.mem

/-- R385: an idle engine holds all state, and nothing but a CMD write wakes it. -/
def Obligations.IdleHoldsEverything : Prop :=
  ∀ s : State, s.busy = false →
    step s = .next s ∧
    (∀ n v t, n ≠ 0 → hostWrite n v s = .next t → t.busy = false) ∧
    (∀ a v t, hostStore a v s = .next t → t.busy = false) ∧
    (∀ v, v < 4 → hostWrite 0 v s = .next { s with busy := true, port := { s.port with cmd := BitVec.ofNat 2 v } })

/-- R373, R374, R375: an error writes STATUS, DISABLED and BUSY, a suspension STATUS and BUSY, and neither anything else the spec
names: FSM and every local stand. The three bits beside BUSY are the model's own (log 1, log 6). -/
def Obligations.TrapEffects : Prop :=
  ∀ (e : Status) (s : State),
    s.raise e =
      { s with
        disabled := true, busy := false, decoding := false, inLoop := false, interleaved := false,
        port := { s.port with status := e } } ∧
    s.suspend e =
      { s with
        busy := false, decoding := false, inLoop := false, interleaved := false, port := { s.port with status := e } }

/-- R301, R303: what one byte appended to the history does. -/
def Obligations.HistoryAppend : Prop :=
  ∀ (w : Window) (b : Byte), w.hfill.toNat ≤ 32768 →
    (w.append b).hidx.toNat = (w.hidx.toNat + 1) % 32768 ∧
    (w.append b).hfill.toNat = min (w.hfill.toNat + 1) 32768 ∧
    (w.append b).histAt 1 = b ∧
    (∀ d, 1 ≤ d → d ≤ 32767 → (w.append b).histAt (d + 1) = w.histAt d)

/-- R40, R331, R371: the host's side of the registers: what FLAGS and STATUS read as, which register each number is, and that a write
keeps every address and length register inside its width. A value too wide for its register is cut to it (log 15, the model's
choice); while BUSY = 1 only FLAGS can be read (log 13, the model's choice for the registers beside it). -/
def Obligations.HostRegisters : Prop :=
  (∀ s : State, s.flags.getLsbD 0 = s.busy ∧ s.flags.getLsbD 1 = s.disabled ∧ (s.flags.getLsbD 2 = true ↔ s.fsm = .done)) ∧
  ([Status.ok, .shortRead, .shortWrite, .badBlockType, .badStoredLen, .badCodeLengthCounts, .badCodeLengthRepeat,
      .badCodeLengthTotal, .missingEob, .huffOver, .huffUnder, .badMinCodeLength, .badHuffmanCode, .badDistance,
      .truncatedInput, .internalBitCount, .internalBufferIndices, .internalHuffmanState, .disabled, .interleaved].map
        Status.code =
    [0x00, 0x01, 0x02, 0x10, 0x11, 0x12, 0x13, 0x14, 0x15, 0x16, 0x17, 0x18, 0x19, 0x1A, 0x1B, 0x20, 0x21, 0x22, 0x30, 0x31]) ∧
  (∀ s : State, s.busy = false →
    hostRead 1 s = .ok s.port.status.code.toNat ∧ hostRead 2 s = .ok s.port.srcPtr ∧ hostRead 5 s = .ok s.port.dstPtr ∧
    hostRead 11 s = .ok s.port.wbMin ∧ hostRead 12 s = .ok s.port.wbMax) ∧
  (∀ s : State, s.busy = true → ∀ n, n = 1 ∨ n = 2 ∨ n = 5 ∨ n = 11 ∨ n = 12 → hostRead n s = .error .hostAccessWhileBusy) ∧
  (∀ s : State, hostRead 13 s = .ok s.flags.toNat) ∧
  (∀ (s : State) (n : Nat), n ≠ 1 → n ≠ 2 → n ≠ 5 → n ≠ 11 → n ≠ 12 → n ≠ 13 → hostRead n s = .error .noHostAccess) ∧
  (∀ (s : State) (v : Nat), s.busy = false →
    let w := v % 2 ^ s.par.addrW
    hostWrite 0 v s = .next { s with busy := true, port := { s.port with cmd := BitVec.ofNat 2 v } } ∧
    hostWrite 2 v s = .next { s with port := { s.port with srcPtr := w } } ∧
    hostWrite 3 v s = .next { s with port := { s.port with srcEnd := w } } ∧
    hostWrite 4 v s = .next { s with port := { s.port with srcClosed := decide (v % 2 = 1) } } ∧
    hostWrite 5 v s = .next { s with port := { s.port with dstPtr := w } } ∧
    hostWrite 6 v s = .next { s with port := { s.port with dstEnd := w } } ∧
    hostWrite 7 v s = .next { s with port := { s.port with wbPtr := w } } ∧
    hostWrite 8 v s = .next { s with port := { s.port with wbLen := w } } ∧
    hostWrite 9 v s = .next { s with port := { s.port with hbPtr := w } } ∧
    hostWrite 10 v s = .next { s with port := { s.port with hbLen := w } } ∧
    ∀ n, n = 1 ∨ 11 ≤ n → hostWrite n v s = .refused .noHostAccess) ∧
  (∀ (s : State) (n v : Nat), s.busy = true → n ≠ 0 → hostWrite n v s = .refused .hostAccessWhileBusy) ∧
  (∀ (s t : State) (n v : Nat), s.PortOk → hostWrite n v s = .next t → t.PortOk)

/-! ### The step -/

/-- A busy engine that owes no interleaving report runs the instruction it has fetched, on the state with that instruction's bits
consumed; where no instruction begins, it makes the move the FSM state gives (log 1). A command just written is the next
instruction (R330, R341), by its number (R109). -/
def Obligations.StepRunsFetched : Prop :=
  ∀ s : State, s.busy = true → s.interleaved = false →
    (∀ i t, fetch s = .instr i t → step s = exec i t) ∧ (∀ o, fetch s = .engine o → step s = o) ∧
    (s.decoding = false →
      step s = exec (decodeCommand s.port.cmd) s ∧
      (s.port.cmd = 0 → step s = exec .reset s) ∧ (s.port.cmd = 1 → step s = exec .decode s) ∧
      (s.port.cmd = 2 → step s = exec .addHistory s) ∧ (s.port.cmd = 3 → step s = exec .workbufLen s))

/-- Where the stream, the bits held and then the input not yet read, begins with an instruction of the element FSM awaits (R90, R108),
the step is exec of that instruction on the state with those bits consumed, byte-minimally (R136), however many of them were held;
where they all were held, it is so with any table. That a symbol and its extra bits, two elements of R90, are one instruction and
one step is the model's choice (log 1), and so is the bit that marks a pass inside DYN_CLL's loop (log 6). A stream that ends
inside the element is ShortElements's; symbol 16 with no predecessor, whose extra bits are not read (R225), RepeatPredecessor's. -/
def Obligations.StepRunsDecodedElement : Prop :=
  ∀ (s : State) (slot : Slot) (tab : Table) (i : Instr) (n : Nat), (s.loc.i ≠ 0 ∨ ∀ x, i.shape ≠ .cl 16 x) →
    (s.Reads slot tab → decode slot tab (BitVec.ofNat 32 s.streamValue) = .ok (i, n) → n ≤ s.streamLen →
      ∃ u : State, step s = exec i u ∧ u.streamValue = s.streamValue / 2 ^ n ∧ u.streamLen = s.streamLen - n ∧ u.AccOk ∧
        (s.nbits.toNat ≤ 7 → u.nbits.toNat ≤ 7) ∧
        u = { s with
          bits := u.bits, nbits := u.nbits, port := { s.port with srcPtr := u.port.srcPtr },
          inLoop := if s.fsm = .dynCll then true else s.inLoop }) ∧
    (s.Decoding → s.fastReady = false → s.awaits = some (slot, tab) → decode slot tab s.bits = .ok (i, n) → n ≤ s.nbits.toNat →
      step s = exec i { s.consume n with inLoop := if s.fsm = .dynCll then true else s.inLoop })

/-- R226, R262, R264, R266, R302: the states a resumed DECODE enters in the middle of a symbol. LIT_OUT puts out the byte that waits
in LIT; LEN_EXTRA, DIST_EXTRA and DYN_LENS_EXTRA read the extra field the latched symbol asks for and go on as the symbol does, or
end as that read ends; COPY copies the REM bytes that are left, or as many as fit, each the byte DIST before it. -/
def Obligations.ResumedPasses : Prop :=
  ∀ s : State, s.Decoding →
    (s.fsm = .litOut →
      (s.port.dstPtr = s.port.dstEnd → step s = .next (s.suspend .shortWrite)) ∧
      (s.port.dstPtr ≠ s.port.dstEnd → s.inSpace s.port.dstPtr = true →
        step s = .next
          { s with
            mem := s.mem.write s.port.dstPtr s.loc.lit, win := s.win.append s.loc.lit, fsm := .llSym,
            port := { s.port with dstPtr := s.port.dstPtr + 1 } })) ∧
    (s.fsm = .lenExtra →
      (∀ x t, take s.loc.lnx.toNat s = .val x t →
        step s = .next
          { t with loc := { t.loc with length := BitVec.ofNat 9 (s.loc.lbase.toNat + x.toNat) }, fsm := .distSym }) ∧
      (∀ o, take s.loc.lnx.toNat s = .stop o → step s = o)) ∧
    (s.fsm = .distExtra →
      (∀ x t d, take s.loc.dnx.toNat s = .val x t → d = s.loc.dbase.toNat + x.toNat →
        (d = 0 ∨ s.win.hfill.toNat < d →
          step s = .next ({ t with loc := { t.loc with dist := BitVec.ofNat 16 d } }.raise .badDistance)) ∧
        (d ≠ 0 → d ≤ s.win.hfill.toNat →
          step s = step
            { t with
              loc := { t.loc with dist := BitVec.ofNat 16 d, rem := BitVec.ofNat 16 s.loc.length.toNat }, fsm := .copy })) ∧
      (∀ o, take s.loc.dnx.toNat s = .stop o → step s = o)) ∧
    (s.fsm = .dynLensExtra →
      (∀ x t, s.loc.repsym = 16 → s.loc.i ≠ 0 → take 2 s = .val x t → step s = exec (.clRepPrev (x.setWidth 2)) t) ∧
      (∀ x t, s.loc.repsym = 17 → take 3 s = .val x t → step s = exec (.clRepZ3 (x.setWidth 3)) t) ∧
      (∀ x t, s.loc.repsym = 18 → take 7 s = .val x t → step s = exec (.clRepZ11 (x.setWidth 7)) t) ∧
      (∀ o, s.loc.repsym = 16 ∧ take 2 s = .stop o ∨ s.loc.repsym = 17 ∧ take 3 s = .stop o ∨
          s.loc.repsym = 18 ∧ take 7 s = .stop o → step s = o)) ∧
    (s.fsm = .copy → s.MemOk → s.loc.dist.toNat ≤ s.win.hfill.toNat → s.win.hfill.toNat ≤ 32768 →
      s.port.dstPtr ≤ s.port.dstEnd → s.port.dstEnd ≤ 2 ^ s.par.addrW →
      let n := min s.loc.rem.toNat (s.port.dstEnd - s.port.dstPtr)
      let c (t : State) : State :=
        { s with
          mem := t.mem, win := t.win, loc := { s.loc with rem := s.loc.rem - BitVec.ofNat 16 n },
          port := { s.port with dstPtr := s.port.dstPtr + n } }
      ∃ t, step s = .next t ∧
        t = (if n = s.loc.rem.toNat then { c t with fsm := .llSym } else (c t).suspend .shortWrite) ∧
        t.win.hidx = s.win.hidx + BitVec.ofNat 15 n ∧ t.win.hfill.toNat = min (s.win.hfill.toNat + n) 32768 ∧
        (∀ k, k < n → t.mem.read (s.port.dstPtr + k) =
          if k < s.loc.dist.toNat then s.win.histAt (s.loc.dist.toNat - k)
          else t.mem.read (s.port.dstPtr + k - s.loc.dist.toNat)) ∧
        (∀ a, (a < s.port.dstPtr ∨ s.port.dstPtr + n ≤ a) → t.mem.read a = s.mem.read a))

/-- R332, R377: a CMD write while BUSY is a run the model refuses. The engine's own reaction, which R332 gives beside it: the second
command is not started, and the running one ends at the next state boundary with E_INTERLEAVED and DISABLED set, everything else
as it stood there. Between two steps the engine stands at such a boundary, but for a DYN_CLL or STORED_COPY inside its loop, which
runs on; a pass that ends the command there is reported as interleaved. What the boundary is for a command with no FSM state, and
which status a pass that ends there has, is the model's choice, and so is that CMD keeps the running command's value (log 6). -/
def Obligations.InterleavedCommand : Prop :=
  ∀ s : State, s.busy = true →
    (∀ v, hostWrite 0 v s = .refused .interleavedCommand) ∧
    (∀ c, hostCommand c s = { s with interleaved := true }) ∧
    (s.inLoop = false →
      step { s with interleaved := true } = .next
        { s with
          disabled := true, busy := false, decoding := false, inLoop := false, interleaved := false,
          port := { s.port with status := .interleaved } }) ∧
    (s.ControlOk → s.inLoop = true → ∀ u, step { s with interleaved := false } = .next u →
      step { s with interleaved := true } = .next (if u.busy then { u with interleaved := true } else u.raise .interleaved))

/-- R131, R134, R140, R163: a pass whose stream ends inside the element it awaits moves every input byte into the accumulator and
suspends, or raises E_TRUNCATED_INPUT on a closed input under P_CLOSED_INPUT = ERROR: with nothing consumed where a fixed field or
the code of a symbol is not whole, and with the symbol latched (R224, R261, R265) where its code is whole and its extra field is
not. -/
def Obligations.ShortElements : Prop :=
  ∀ (s : State) (slot : Slot) (tab : Table), s.Reads slot tab →
    let ended (t : State) : Result :=
      .next (if s.port.srcClosed = true ∧ s.par.closedInput = .error then t.raise .truncatedInput else t.suspend .shortRead)
    (s.streamLen < slotNeeds slot tab (BitVec.ofNat 32 s.streamValue) → step s = ended (s.drained 0)) ∧
    ∀ (A : Alphabet) (lens : List Nat) (m L : Nat), slotAlphabet slot = some A → BuiltFrom s.par A lens tab →
      L = lens.getD m 0 → L ≠ 0 → L ≤ s.streamLen → s.streamValue % 2 ^ L = revBits L (codeOf lens m) →
      (slot = .cl → 16 ≤ m → m ≤ 18 → (m = 16 → s.loc.i ≠ 0) → s.streamLen < L + repeatExtra m →
        step s = ended { s.drained L with loc := { s.loc with repsym := BitVec.ofNat 5 m }, fsm := .dynLensExtra }) ∧
      (slot = .ll → 257 ≤ m → m < 286 → s.streamLen < L + lenExtra.getD (m - 257) 0 →
        step s = ended
          { s.drained L with
            loc := { s.loc with
              lbase := BitVec.ofNat 9 (lenBase.getD (m - 257) 0), lnx := BitVec.ofNat 3 (lenExtra.getD (m - 257) 0) }
            fsm := .lenExtra }) ∧
      (slot = .dist → m < 30 → s.streamLen < L + distExtra.getD m 0 →
        step s = ended
          { s.drained L with
            loc := { s.loc with
              dbase := BitVec.ofNat 15 (distBase.getD m 0), dnx := BitVec.ofNat 4 (distExtra.getD m 0) }
            fsm := .distExtra })

/-! ### Blocks -/

/-- R141, R192: BLOCK_STORED and ALIGN_PAD: the held bits are discarded, the pad's value playing no part; the alignment's internal
check comes before anything is cleared. The pad of a header belongs to the header's step (log 1). R190: BLOCK_FIXED, BLOCK_DYNAMIC
and BLOCK_RESERVED: the flags are written on the error path too. -/
def Obligations.BlockHeaders : Prop :=
  ∀ (s : State) (f : Bool) (n : BitVec 3) (p : BitVec 7),
    (s.AccOk → s.nbits.toNat < 8 →
      exec (.blockStored f) s =
        .next { s with bits := 0, nbits := 0, bfinal := f, btype := 0, eob := false, fsm := .storedLen } ∧
      exec (.alignPad n p) s = .next { s with bits := 0, nbits := 0, fsm := .storedLen }) ∧
    (8 ≤ s.nbits.toNat ∨ s.bits >>> s.nbits.toNat ≠ 0 →
      exec (.blockStored f) s = .next ({ s with bfinal := f, btype := 0, eob := false }.raise .internalBitCount) ∧
      exec (.alignPad n p) s = .next (s.raise .internalBitCount)) ∧
    exec (.blockFixed f) s = .next { s with bfinal := f, btype := 1, eob := false, fsm := .fixedInit } ∧
    exec (.blockDynamic f) s = .next { s with bfinal := f, btype := 2, eob := false, fsm := .dynHdr } ∧
    exec (.blockReserved f) s = .next ({ s with bfinal := f, btype := 3, eob := false }.raise .badBlockType)

/-- R193: STORED_LEN. -/
def Obligations.StoredLenChecks : Prop :=
  ∀ (s : State) (len nlen : BitVec 16),
    (nlen = len ^^^ 0xFFFF → exec (.storedLen len nlen) s = .next { s with loc := { s.loc with rem := len }, fsm := .storedCopy }) ∧
    (nlen ≠ len ^^^ 0xFFFF → exec (.storedLen len nlen) s = .next (s.raise .badStoredLen))

/-- R195: STORED_BYTE: the byte goes out, into the history and off REM; a full output suspends with nothing done.
The fault past the address space is DEDUCED (log 12). -/
def Obligations.StoredByteCopies : Prop :=
  ∀ (s : State) (b : Byte),
    (s.port.dstPtr ≠ s.port.dstEnd → s.inSpace s.port.dstPtr = true →
      exec (.storedByte b) s = .next
        { s with
          mem := s.mem.write s.port.dstPtr b, win := s.win.append b, loc := { s.loc with rem := s.loc.rem - 1 },
          port := { s.port with dstPtr := s.port.dstPtr + 1 } }) ∧
    (s.port.dstPtr ≠ s.port.dstEnd → s.inSpace s.port.dstPtr = false → exec (.storedByte b) s = .fault .noSuchAddress) ∧
    (s.port.dstPtr = s.port.dstEnd → exec (.storedByte b) s = .next (s.suspend .shortWrite))

/-- R195, R377: a pass of STORED_COPY: an empty block ends without a look at either cursor, a full output is reported before an
exhausted input, and a byte moves from input to output. The bit that marks a pass inside the loop is the model's own (log 6). -/
def Obligations.StoredCopyPass : Prop :=
  ∀ s : State, s.Decoding → s.fsm = .storedCopy →
    (s.loc.rem = 0 → step s = .next { s with fsm := .blockEnd, inLoop := false }) ∧
    (s.loc.rem ≠ 0 → s.port.dstPtr = s.port.dstEnd → step s = .next (s.suspend .shortWrite)) ∧
    (s.loc.rem ≠ 0 → s.port.dstPtr ≠ s.port.dstEnd → s.port.srcPtr = s.port.srcEnd →
      step s = .next
        (if s.port.srcClosed = true ∧ s.par.closedInput = .error then s.raise .truncatedInput else s.suspend .shortRead)) ∧
    (s.loc.rem ≠ 0 → s.port.dstPtr ≠ s.port.dstEnd → s.port.srcPtr ≠ s.port.srcEnd →
      s.inSpace s.port.srcPtr = true → s.inSpace s.port.dstPtr = true →
      step s = .next
        { s with
          mem := s.mem.write s.port.dstPtr (s.mem.read s.port.srcPtr), win := s.win.append (s.mem.read s.port.srcPtr),
          loc := { s.loc with rem := s.loc.rem - 1 }, inLoop := true,
          port := { s.port with srcPtr := s.port.srcPtr + 1, dstPtr := s.port.dstPtr + 1 } })

/-- R197: FIXED_INIT never fails: the static lengths are written and both tables built from them. -/
def Obligations.FixedInitBuilds : Prop :=
  ∀ s : State, s.Decoding → s.fsm = .fixedInit →
    step s = .next { s with lens := fixedLens, tab0 := tableOf .ll fixedLL, tab1 := tableOf .d fixedD, fsm := .llSym }

/-- R198, R263: the end-of-block symbol sets EOB and moves to BLOCK_END, which ends the stream where BFINAL = 1 and otherwise goes
to read the next header. The three bits beside BUSY are the model's own (log 1, log 6). -/
def Obligations.EndOfBlock : Prop :=
  (∀ s : State, exec .eob s = .next { s with eob := true, fsm := .blockEnd }) ∧
  (∀ s : State, s.Decoding → s.fsm = .blockEnd →
    (s.bfinal = true → step s = .next
      { s with
        fsm := .done, busy := false, decoding := false, inLoop := false, interleaved := false,
        port := { s.port with status := .ok } }) ∧
    (s.bfinal = false → step s = .next { s with fsm := .hdr }))

/-- R351: RESET gives the start of a new block with the final flag unset, and DONE is reached only from BLOCK_END with
BFINAL = 1. -/
def Obligations.DoneOnlyFromFinalBlock : Prop :=
  (∀ s : State, ∃ t, exec .reset s = .next t ∧ t.fsm = .hdr ∧ t.bfinal = false) ∧
  (∀ s t : State, step s = .next t → t.fsm = .done → s.fsm ≠ .done → s.fsm = .blockEnd ∧ s.bfinal = true) ∧
  (∀ s : State, s.Decoding → s.fsm = .blockEnd → s.bfinal = true → ∃ t, step s = .next t ∧ t.fsm = .done)

/-! ### The dynamic header -/

/-- R221: DYN_HDR: the three fields are written, also where the counts are out of range. -/
def Obligations.DynHdrFields : Prop :=
  ∀ (s : State) (hlit hdist : BitVec 5) (hclen : BitVec 4),
    let s1 := { s with
      loc := { s.loc with
        hlit := BitVec.ofNat 9 (hlit.toNat + 257), hdist := BitVec.ofNat 6 (hdist.toNat + 1),
        hclen := BitVec.ofNat 5 (hclen.toNat + 4) } }
    (hlit.toNat + 257 ≤ 286 ∧ hdist.toNat + 1 ≤ 30 →
      exec (.dynHdr hlit hdist hclen) s = .next { s1 with loc := { s1.loc with i := 0 }, fsm := .dynCll }) ∧
    (¬ (hlit.toNat + 257 ≤ 286 ∧ hdist.toNat + 1 ≤ 30) →
      exec (.dynHdr hlit hdist hclen) s = .next (s1.raise .badCodeLengthCounts))

/-- R95, R222: CLL: the length goes to the CL symbol the transmission order names, and I counts it. -/
def Obligations.CllWritesLength : Prop :=
  ∀ (s : State) (l : BitVec 3) (k : Nat), s.loc.i.toNat < 19 →
    k = [16, 17, 18, 0, 8, 7, 9, 6, 10, 5, 11, 4, 12, 3, 13, 2, 14, 1, 15].getD s.loc.i.toNat 0 →
    ∃ h : k < 320, exec (.cll l) s = .next
      { s with lens := s.lens.set k (l.setWidth 4) h, loc := { s.loc with i := s.loc.i + 1 } }

/-- R222, R223: the end of DYN_CLL: the lengths not transmitted are 0, and the CL table is built of the nineteen lengths.
That a failed build keeps the old table is the model's choice (log 3), and the bit of the loop is its own (log 6). -/
def Obligations.CllTableBuilt : Prop :=
  ∀ s : State, s.Decoding → s.fsm = .dynCll → s.loc.hclen.toNat ≤ s.loc.i.toNat →
    ∃ u : State, u = { s with lens := u.lens } ∧
      (∀ j, j < 19 → u.getLen (clOrder.getD j 0) = if j < s.loc.hclen.toNat then s.getLen (clOrder.getD j 0) else 0) ∧
      (∀ j, 19 ≤ j → u.getLen j = s.getLen j) ∧
      (∀ t0, build s.par .cl (u.lensFrom 0 19) = .ok t0 →
        step s = .next { u with tab0 := t0, loc := { s.loc with i := 0 }, fsm := .dynLensSym, inLoop := false }) ∧
      (∀ e, build s.par .cl (u.lensFrom 0 19) = .error e → step s = .next (u.raise e.status))

/-- R224: CL_LEN_0 to CL_LEN_15 (clLen0 to clLen15): the next length is the symbol. -/
def Obligations.CodeLengthSymbol : Prop :=
  ∀ (i : Instr) (n x : Nat) (s : State), i.shape = .cl n x → n < 16 → ∀ h : s.loc.i.toNat < 320,
    exec i s = .next
      { s with lens := s.lens.set s.loc.i.toNat (BitVec.ofNat 4 n) h, loc := { s.loc with i := s.loc.i + 1 } }

/-- R96, R97, R226, R227: CL_REP_PREV, CL_REP_Z3 and CL_REP_Z11 (clRepPrev, clRepZ3, clRepZ11). Within the total, `cnt` lengths are
written from index I, each the previous length or 0, and nothing else but I, REPSYM and FSM changes; a run past HLIT + HDIST is
refused before any of its lengths is written, with FSM in DYN_LENS_EXTRA (R374). -/
def Obligations.RepeatSymbols : Prop :=
  ∀ (i : Instr) (n x cnt : Nat) (s : State), i.shape = .cl n x →
    (n = 16 ∧ cnt = 3 + x ∧ s.loc.i ≠ 0 ∨ n = 17 ∧ cnt = 3 + x ∨ n = 18 ∧ cnt = 11 + x) →
    (s.loc.i.toNat + cnt ≤ s.lensTotal → s.lensTotal ≤ 316 →
      ∃ t, exec i s = .next t ∧
        t = { s with
          lens := t.lens, fsm := .dynLensSym,
          loc := { s.loc with repsym := BitVec.ofNat 5 n, i := BitVec.ofNat 9 (s.loc.i.toNat + cnt) } } ∧
        ∀ j, j < 320 → t.getLen j =
          if s.loc.i.toNat ≤ j ∧ j < s.loc.i.toNat + cnt then (if n = 16 then s.getLen (s.loc.i.toNat - 1) else 0)
          else s.getLen j) ∧
    (s.lensTotal < s.loc.i.toNat + cnt →
      exec i s = .next
        ({ s with loc := { s.loc with repsym := BitVec.ofNat 5 n }, fsm := .dynLensExtra }.raise .badCodeLengthTotal))

/-- R225: symbol 16 with no predecessor is an error as soon as it is decoded, none of its extra bits being read; 17 and 18 need no
predecessor; and 16 at I = HLIT repeats the last literal/length length. -/
def Obligations.RepeatPredecessor : Prop :=
  (∀ (s s1 : State) (y : Symbol), s.Decoding → s.fsm = .dynLensSym → s.loc.i = 0 → s.lensTotal ≠ 0 →
    decodeSym s.tab0 s = .val y s1 → entryKind y.entry = .lit → entryPayload y.entry = 16 →
    step s = .next (s1.raise .badCodeLengthRepeat)) ∧
  (∀ (s : State) (x : BitVec 3), s.loc.i = 0 → 3 + x.toNat ≤ s.lensTotal →
    ∃ t, exec (.clRepZ3 x) s = .next t ∧ t.busy = s.busy ∧ t.loc.i.toNat = 3 + x.toNat) ∧
  (∀ (s : State) (x : BitVec 7), s.loc.i = 0 → 11 + x.toNat ≤ s.lensTotal →
    ∃ t, exec (.clRepZ11 x) s = .next t ∧ t.busy = s.busy ∧ t.loc.i.toNat = 11 + x.toNat) ∧
  (∀ (s : State) (x : BitVec 2), s.loc.i = s.loc.hlit → 257 ≤ s.loc.hlit.toNat → s.loc.hlit.toNat + 3 + x.toNat ≤ s.lensTotal →
    s.lensTotal ≤ 316 →
    ∃ t, exec (.clRepPrev x) s = .next t ∧ t.busy = s.busy ∧ t.getLen s.loc.hlit.toNat = s.getLen (s.loc.hlit.toNat - 1))

/-- R224: DYN_LENS_SYM with all HLIT + HDIST lengths read goes to DYN_BUILD. R229, R377: DYN_BUILD: the end-of-block check, then the
literal/length table, then the distance table; the first that fails is reported. That a failed build keeps the old table is the
model's choice (log 3). -/
def Obligations.DynBuildOrder : Prop :=
  (∀ s : State, s.Decoding → s.fsm = .dynLensSym → s.loc.i.toNat = s.lensTotal → step s = .next { s with fsm := .dynBuild }) ∧
  ∀ s : State, s.Decoding → s.fsm = .dynBuild →
    let ll := s.lensFrom 0 s.loc.hlit.toNat
    let d := s.lensFrom s.loc.hlit.toNat s.loc.hdist.toNat
    (s.getLen 256 = 0 → step s = .next (s.raise .missingEob)) ∧
    (s.getLen 256 ≠ 0 → ∀ e, build s.par .ll ll = .error e → step s = .next (s.raise e.status)) ∧
    (s.getLen 256 ≠ 0 → ∀ t0, build s.par .ll ll = .ok t0 →
      (∀ e, build s.par .d d = .error e → step s = .next ({ s with tab0 := t0 }.raise e.status)) ∧
      (∀ t1, build s.par .d d = .ok t1 → step s = .next { s with tab0 := t0, tab1 := t1, fsm := .llSym }))

/-! ### Symbols -/

/-- R261, R262, R301: LIT_0 to LIT_255 (lit0 to lit255): the byte goes to the output and into the history; where the output is full
it stays in LIT, its bits consumed, and the engine waits in LIT_OUT. The fault past the address space is DEDUCED (log 12). -/
def Obligations.LiteralSymbols : Prop :=
  ∀ (i : Instr) (n x : Nat) (s : State), i.shape = .ll n x → n < 256 →
    (s.port.dstPtr ≠ s.port.dstEnd → s.inSpace s.port.dstPtr = true →
      exec i s = .next
        { s with
          mem := s.mem.write s.port.dstPtr (BitVec.ofNat 8 n), win := s.win.append (BitVec.ofNat 8 n),
          loc := { s.loc with lit := BitVec.ofNat 8 n }, fsm := .llSym,
          port := { s.port with dstPtr := s.port.dstPtr + 1 } }) ∧
    (s.port.dstPtr ≠ s.port.dstEnd → s.inSpace s.port.dstPtr = false → exec i s = .fault .noSuchAddress) ∧
    (s.port.dstPtr = s.port.dstEnd →
      exec i s = .next ({ s with loc := { s.loc with lit := BitVec.ofNat 8 n }, fsm := .litOut }.suspend .shortWrite))

/-- R104, R106, R261, R264: LEN_257 to LEN_285 (len257 to len285): the length is the base of the symbol plus its extra field,
3 to 258, and the distance comes next. -/
def Obligations.LengthSymbols : Prop :=
  ∀ (i : Instr) (n x : Nat) (s : State), i.shape = .ll n x → 257 ≤ n → n < 286 →
    exec i s = .next
      { s with
        loc := { s.loc with
          lbase := BitVec.ofNat 9 (lenBase.getD (n - 257) 0), lnx := BitVec.ofNat 3 (lenExtra.getD (n - 257) 0),
          length := BitVec.ofNat 9 (lenBase.getD (n - 257) 0 + x) },
        fsm := .distSym } ∧
    3 ≤ lenBase.getD (n - 257) 0 + x ∧ lenBase.getD (n - 257) 0 + x ≤ 258

/-- R261, R265: LL_INVALID_286, LL_INVALID_287, DIST_INVALID_30 and DIST_INVALID_31 (llInvalid286, llInvalid287, distInvalid30,
distInvalid31) disable the instance with E_BAD_HUFFMAN_CODE, all else as it stood. R110: so does a pass that reads any INVALID
entry, a code with no symbol among them, its bits consumed. -/
def Obligations.ReservedSymbols : Prop :=
  (∀ (i : Instr) (s : State), (i = .llInvalid286 ∨ i = .llInvalid287 ∨ i = .distInvalid30 ∨ i = .distInvalid31) →
    exec i s = .next (s.raise .badHuffmanCode)) ∧
  ∀ (s t : State) (tab : Table) (y : Symbol), s.Decoding → s.fastReady = false →
    (s.fsm = .llSym ∧ tab = s.tab0 ∨ s.fsm = .distSym ∧ tab = s.tab1) →
    decodeSym tab s = .val y t → entryKind y.entry = .invalid → step s = .next (t.raise .badHuffmanCode)

/-- R105, R106, R266, R302: DIST_0 to DIST_29 (dist0 to dist29) with the distance inside the history and room for the match: LENGTH
bytes are copied one by one, each the byte DIST before it, and nothing but the output, the history, DST_PTR, the four locals and
FSM changes. -/
def Obligations.DistanceSymbols : Prop :=
  ∀ (i : Instr) (n x d : Nat) (s : State), i.shape = .dist n x → n < 30 → d = distBase.getD n 0 + x →
    d ≤ s.win.hfill.toNat → s.win.hfill.toNat ≤ 32768 → s.MemOk → s.Room s.loc.length.toNat →
    ∃ t, exec i s = .next t ∧
      t = { s with
        mem := t.mem, win := t.win, fsm := .llSym,
        loc := { s.loc with
          dbase := BitVec.ofNat 15 (distBase.getD n 0), dnx := BitVec.ofNat 4 (distExtra.getD n 0),
          dist := BitVec.ofNat 16 d, rem := 0 },
        port := { s.port with dstPtr := s.port.dstPtr + s.loc.length.toNat } } ∧
      t.win.hidx = s.win.hidx + BitVec.ofNat 15 s.loc.length.toNat ∧
      t.win.hfill.toNat = min (s.win.hfill.toNat + s.loc.length.toNat) 32768 ∧
      (∀ k, k < s.loc.length.toNat →
        t.mem.read (s.port.dstPtr + k) =
          if k < d then s.win.histAt (d - k) else t.mem.read (s.port.dstPtr + k - d)) ∧
      (∀ a, (a < s.port.dstPtr ∨ s.port.dstPtr + s.loc.length.toNat ≤ a) → t.mem.read a = s.mem.read a)

/-- R266, R302, R374, R377: where a match stops. A distance beyond the bytes in the history is E_BAD_DISTANCE, before any byte is
copied and whatever the output holds; a copy with no room for all of its bytes writes as many as fit, each the byte DIST before it,
to the output and into the history, suspends in COPY and keeps the count of the others in REM. -/
def Obligations.DistanceStops : Prop :=
  ∀ (i : Instr) (n x d : Nat) (s : State), i.shape = .dist n x → n < 30 → d = distBase.getD n 0 + x →
    (s.win.hfill.toNat < d →
      exec i s = .next
        ({ s with
          loc := { s.loc with
            dbase := BitVec.ofNat 15 (distBase.getD n 0), dnx := BitVec.ofNat 4 (distExtra.getD n 0),
            dist := BitVec.ofNat 16 d },
          fsm := .distExtra }.raise .badDistance)) ∧
    (d ≤ s.win.hfill.toNat → s.port.dstPtr ≤ s.port.dstEnd → s.port.dstEnd ≤ 2 ^ s.par.addrW →
      s.port.dstEnd < s.port.dstPtr + s.loc.length.toNat →
      ∃ t, exec i s = .next t ∧ t.EndedWith .shortWrite ∧ t.fsm = .copy ∧ t.disabled = s.disabled ∧
        t.port.dstPtr = s.port.dstEnd ∧
        t.loc.rem.toNat = s.loc.length.toNat - (s.port.dstEnd - s.port.dstPtr) ∧
        t.loc.dist = BitVec.ofNat 16 d ∧ t.bits = s.bits ∧ t.nbits = s.nbits ∧ t.port.srcPtr = s.port.srcPtr ∧
        t.win.hidx = s.win.hidx + BitVec.ofNat 15 (s.port.dstEnd - s.port.dstPtr) ∧
        (s.win.hfill.toNat ≤ 32768 →
          t.win.hfill.toNat = min (s.win.hfill.toNat + (s.port.dstEnd - s.port.dstPtr)) 32768) ∧
        (s.MemOk →
          (∀ k, k < s.port.dstEnd - s.port.dstPtr →
            t.mem.read (s.port.dstPtr + k) =
              if k < d then s.win.histAt (d - k) else t.mem.read (s.port.dstPtr + k - d)) ∧
          (∀ a, (a < s.port.dstPtr ∨ s.port.dstEnd ≤ a) → t.mem.read a = s.mem.read a)))

/-- R266, R302: the registers a distance symbol leaves alone, whatever becomes of the match. -/
def Obligations.DistanceFrame : Prop :=
  ∀ (i : Instr) (n x : Nat) (s t : State), i.shape = .dist n x → n < 30 → exec i s = .next t →
    t = { s with
      mem := t.mem, win := t.win, fsm := t.fsm, disabled := t.disabled, busy := t.busy, decoding := t.decoding,
      inLoop := t.inLoop, interleaved := t.interleaved,
      loc := { s.loc with dbase := t.loc.dbase, dnx := t.loc.dnx, dist := t.loc.dist, rem := t.loc.rem },
      port := { s.port with dstPtr := t.port.dstPtr, status := t.port.status } } ∧
    (s.busy = true → (t.disabled = true ↔ s.disabled = true ∨ t.port.status = .badDistance ∧ t.busy = false))

/-! ### Commands -/

/-- R41, R341, R344: DECODE: E_DISABLED on a disabled instance, OK at once on a finished stream, else, with the cursors ordered and
the three ranges apart, the loop is entered, at the state FSM names, with nothing else changed. The bit that says so is the model's
own (log 1); that the operands are looked at in this case only is read from R41, R344 and R377 (log 7). -/
def Obligations.DecodeStarts : Prop :=
  ∀ s : State,
    (s.disabled = true → exec .decode s = .next (s.suspend .disabled)) ∧
    (s.disabled = false → s.fsm = .done → exec .decode s = .next (s.suspend .ok)) ∧
    (s.disabled = false → s.fsm ≠ .done → s.port.srcPtr ≤ s.port.srcEnd → s.port.dstPtr ≤ s.port.dstEnd →
      (∀ a, s.InSource a → ¬ s.InOutput a) → (∀ a, s.InHistoryRange a → ¬ s.InSource a ∧ ¬ s.InOutput a) →
      exec .decode s = .next { s with decoding := true })

/-- R41: a command with illegal operands is refused: a DECODE with a cursor past its end or two ranges that share an address, an
ADD_HISTORY whose range shares one with the input or the output; and no instruction is refused for anything else. Which command
each condition of R41 is asked of, and that E_DISABLED and a finished stream come first, is read from the rules (log 7). -/
def Obligations.IllegalOperandsRefused : Prop :=
  (∀ s : State, exec .decode s = .refused .illegalOperands ↔
    s.disabled = false ∧ s.fsm ≠ .done ∧
      (s.port.srcEnd < s.port.srcPtr ∨ s.port.dstEnd < s.port.dstPtr ∨
        ∃ a, s.InSource a ∧ s.InOutput a ∨ s.InHistoryRange a ∧ (s.InSource a ∨ s.InOutput a))) ∧
  (∀ s : State, exec .addHistory s = .refused .illegalOperands ↔
    s.disabled = false ∧ ∃ a, s.InHistoryRange a ∧ (s.InSource a ∨ s.InOutput a)) ∧
  (∀ (i : Instr) (s : State) (r : Refusal), exec i s = .refused r → (i = .decode ∨ i = .addHistory) ∧ r = .illegalOperands)

/-- R305, R343: ADD_HISTORY: E_DISABLED on a disabled instance; else, with its range apart from the input and the output, HB_LEN bytes
from HB_PTR up are appended, the last 32768 of them readable, and nothing but the history and STATUS changes. That of R41 only the
overlap is asked of it, and not the order of the cursors, is read from the rules (log 7). -/
def Obligations.AddHistoryAppends : Prop :=
  ∀ s : State,
    (s.disabled = true → exec .addHistory s = .next (s.suspend .disabled)) ∧
    (s.disabled = false → (∀ a, s.InHistoryRange a → ¬ s.InSource a ∧ ¬ s.InOutput a) →
      s.port.hbPtr + s.port.hbLen ≤ 2 ^ s.par.addrW → s.win.hfill.toNat ≤ 32768 →
      ∃ t, exec .addHistory s = .next t ∧ t = { s.suspend .ok with win := t.win } ∧
        t.win.hidx = s.win.hidx + BitVec.ofNat 15 s.port.hbLen ∧
        t.win.hfill.toNat = min (s.win.hfill.toNat + s.port.hbLen) 32768 ∧
        (∀ d, 1 ≤ d → d ≤ s.port.hbLen → d ≤ 32768 →
          t.win.histAt d = s.mem.read (s.port.hbPtr + s.port.hbLen - d)) ∧
        (∀ d, s.port.hbLen < d → d ≤ 32768 → t.win.histAt d = s.win.histAt (d - s.port.hbLen)))

/-- R342: WORKBUF_LEN answers the constant, changes nothing else, and is the only instruction that sees it. A configuration whose
constant is wider than the registers, which R40 rules out, gives its low bits (log 15, the model's choice). The three bits beside
BUSY are the model's own (log 1, log 6). -/
def Obligations.WorkbufLen : Prop :=
  (∀ (s : State) (n : Nat), n = s.par.workbuf % 2 ^ s.par.addrW ∨ s.par.Valid ∧ n = s.par.workbuf →
    exec .workbufLen s = .next
      { s with
        busy := false, decoding := false, inLoop := false, interleaved := false,
        port := { s.port with wbMin := n, wbMax := n, status := .ok } }) ∧
  (∀ (i : Instr) (s : State) (n : Nat), i ≠ .workbufLen →
    exec i (s.withWorkbuf n) = mapNext (fun t => t.withWorkbuf n) (exec i s))

/-! ### The bit reader -/

/-- R23, R133, R136: `Take(n)` answers the next `n` stream bits, the first lowest, and leaves the rest of the stream as it was; from
at most 7 held bits it reads exactly the bytes it needs and ends with at most 7. -/
def Obligations.TakeReadsStream : Prop :=
  ∀ (s : State) (n : Nat), s.AccOk → s.CursorsOk → s.port.srcEnd ≤ 2 ^ s.par.addrW → n ≤ s.streamLen →
    (n ≤ 25 ∨ n ≤ 32 ∧ s.nbits.toNat % 8 = 0) →
    ∃ v t, take n s = .val v t ∧ v.toNat = s.streamValue % 2 ^ n ∧ t.streamValue = s.streamValue / 2 ^ n ∧
      t.streamLen = s.streamLen - n ∧ t.AccOk ∧
      (s.nbits.toNat ≤ 7 → t.nbits.toNat ≤ 7 ∧ t.port.srcPtr = s.port.srcPtr + (n - s.nbits.toNat + 7) / 8) ∧
      t = { s with bits := t.bits, nbits := t.nbits, port := { s.port with srcPtr := t.port.srcPtr } }

/-- R131, R134, R140: a read of more bits than the stream has moves every input byte into the accumulator, takes nothing, and
suspends, or raises E_TRUNCATED_INPUT on a closed input under P_CLOSED_INPUT = ERROR. -/
def Obligations.ShortTakeKeepsBits : Prop :=
  ∀ (s : State) (n : Nat), s.AccOk → s.CursorsOk → s.port.srcEnd ≤ 2 ^ s.par.addrW → s.streamLen < n →
    (n ≤ 25 ∨ n ≤ 32 ∧ s.nbits.toNat % 8 = 0) →
    ∃ t : State, take n s = .stop (.next
        (if s.port.srcClosed = true ∧ s.par.closedInput = .error then t.raise .truncatedInput else t.suspend .shortRead)) ∧
      t.bits.toNat = s.streamValue ∧ t.nbits.toNat = s.streamLen ∧
      t = { s with bits := t.bits, nbits := t.nbits, port := { s.port with srcPtr := s.port.srcEnd } }

/-! ### Huffman codes -/

/-- R152, R154, R155, R161: what Build answers, by the Kraft sum. The arena bound of R165 is the one condition left as it stands. -/
def Obligations.BuildByKraftSum : Prop :=
  ∀ (p : Params) (A : Alphabet) (lens : List Nat), LensOk lens →
    (2 ^ 15 < kraftSum lens → build p A lens = .error .over) ∧
    (kraftSum lens = 2 ^ 15 → (subTables lens).2 ≤ 1024 → build p A lens = .ok (tableOf A lens)) ∧
    (kraftSum lens < 2 ^ 15 →
      (A = .d ∧ (codeCount lens 1 = 1 ∧ (∀ L, 2 ≤ L → L ≤ 15 → codeCount lens L = 0) ∨
          p.emptyDist = .accept ∧ ∀ L, 1 ≤ L → L ≤ 15 → codeCount lens L = 0) →
        build p A lens = .ok (tableOf A lens)) ∧
      (¬ (A = .d ∧ (codeCount lens 1 = 1 ∧ (∀ L, 2 ≤ L → L ≤ 15 → codeCount lens L = 0) ∨
          p.emptyDist = .accept ∧ ∀ L, 1 ≤ L → L ≤ 15 → codeCount lens L = 0)) →
        build p A lens = .error .under))

/-- R167: in a built table, whatever follows a symbol's code, the lookup selects the symbol's entry and the code's length. -/
def Obligations.LookupRoundTrip : Prop :=
  ∀ (p : Params) (A : Alphabet) (lens : List Nat) (t : Table) (y : Nat) (r : Acc), BuiltFrom p A lens t →
    lens.getD y 0 ≠ 0 → r.toNat % 2 ^ lens.getD y 0 = revBits (lens.getD y 0) (codeOf lens y) →
    lookup t r = (makeEntry A y (if lens.getD y 0 ≤ 9 then lens.getD y 0 else lens.getD y 0 - 9), lens.getD y 0)

/-- R166, R167: no bit pattern selects an EMPTY entry of a built table, and every pattern that begins with no code selects an INVALID
entry of one bit. -/
def Obligations.LookupIsTotal : Prop :=
  ∀ (p : Params) (A : Alphabet) (lens : List Nat) (t : Table) (r : Acc), BuiltFrom p A lens t →
    entryKind (lookup t r).1 ≠ .empty ∧
    ((∃ y, lens.getD y 0 ≠ 0 ∧ r.toNat % 2 ^ lens.getD y 0 = revBits (lens.getD y 0) (codeOf lens y)) ∨
      lookup t r = (packEntry 0x08 0 0 1, 1))

/-- R163, R164: `DecodeSym` on a stream that begins with a symbol's code answers that symbol's entry and leaves the rest of the
stream, whatever part of the code was held; one that begins with no code (R160) answers the INVALID entry, for one bit; and one
that ends inside its code moves every input byte into the accumulator, consumes nothing, and ends as the exhausted input does. -/
def Obligations.DecodeSymReadsStream : Prop :=
  ∀ (p : Params) (A : Alphabet) (lens : List Nat) (tab : Table) (s : State), BuiltFrom p A lens tab →
    s.AccOk → s.CursorsOk → s.port.srcEnd ≤ 2 ^ s.par.addrW →
    let begins (y : Nat) : Prop :=
      lens.getD y 0 ≠ 0 ∧ s.streamValue % 2 ^ lens.getD y 0 = revBits (lens.getD y 0) (codeOf lens y)
    let leaves (L : Nat) (t : State) : Prop :=
      t.streamValue = s.streamValue / 2 ^ L ∧ t.streamLen = s.streamLen - L ∧ (s.nbits.toNat ≤ 7 → t.nbits.toNat ≤ 7) ∧
      t = { s with bits := t.bits, nbits := t.nbits, port := { s.port with srcPtr := t.port.srcPtr } }
    (∀ y, begins y → lens.getD y 0 ≤ s.streamLen →
      ∃ t, decodeSym tab s =
          .val
            { entry := makeEntry A y (if lens.getD y 0 ≤ 9 then lens.getD y 0 else lens.getD y 0 - 9), len := lens.getD y 0,
              code := revBits (lens.getD y 0) (codeOf lens y) } t ∧
        leaves (lens.getD y 0) t) ∧
    ((∀ y, ¬ begins y) → 1 ≤ s.streamLen →
      ∃ t, decodeSym tab s = .val { entry := packEntry 0x08 0 0 1, len := 1, code := s.streamValue % 2 } t ∧ leaves 1 t) ∧
    (s.streamLen < (lookup tab (BitVec.ofNat 32 s.streamValue)).2 →
      decodeSym tab s = .stop (.next
        (if s.port.srcClosed = true ∧ s.par.closedInput = .error then (s.drained 0).raise .truncatedInput
        else (s.drained 0).suspend .shortRead)))

/-! ### Encoding -/

/-- A few words written out from the spec's encodings decode to the instructions they stand for: the header bytes of R191, the
count fields and length word of R221 and R193, the fixed codes of R199. -/
def Obligations.SpecWordsDecode : Prop :=
  decode .header (placeTable .header) 0x03 = .ok (.blockFixed true, 3) ∧
  decode .header (placeTable .header) 0x06 = .ok (.blockReserved false, 3) ∧
  decode .dynHdr (placeTable .dynHdr) 0x3800 = .ok (.dynHdr 0 0 14, 14) ∧
  decode .storedLen (placeTable .storedLen) 0xFFFC0003 = .ok (.storedLen 3 0xFFFC, 32) ∧
  decode .ll (placeTable .ll) 0x089 = .ok (.lit97, 8) ∧
  decode .ll (placeTable .ll) 0x000 = .ok (.eob, 7) ∧
  decode .dist (placeTable .dist) 0x024 = .ok (.dist4 1, 6) ∧
  decode .dist (placeTable .dist) 0x01F = .ok (.distInvalid31, 5)

/-- Decoding undoes encoding, for every well-formed instruction in the fixed code, whatever bits follow it. -/
def Obligations.DecodeEncode : Prop :=
  ∀ (i : Instr) (g : Nat), WellFormed i →
    decode i.slot (placeTable i.slot)
        (BitVec.ofNat 32 ((encode (placeLens i.slot) i).1 + 2 ^ (encode (placeLens i.slot) i).2 * g)) =
      .ok (i, (encode (placeLens i.slot) i).2)

/-- Decoding undoes encoding in every code a dynamic block can build: a symbol that has a code, with its extra field, whatever bits
follow it. -/
def Obligations.DynamicDecodeEncode : Prop :=
  ∀ (p : Params) (A : Alphabet) (lens : List Nat) (tab : Table) (i : Instr) (g n x : Nat), BuiltFrom p A lens tab →
    slotAlphabet i.slot = some A → (i.shape = .cl n x ∨ i.shape = .ll n x ∧ n < 286 ∨ i.shape = .dist n x ∧ n < 30) →
    lens.getD n 0 ≠ 0 →
    decode i.slot tab (BitVec.ofNat 32 ((encode lens i).1 + 2 ^ (encode lens i).2 * g)) = .ok (i, (encode lens i).2)

/-! ### Frames of memory -/

/-- R71, R62: the bytes of host memory an instruction changes: none, but for a literal and a stored byte, which store at DST_PTR, and
a distance symbol, whose copy stores from DST_PTR up to the new DST_PTR. -/
def Obligations.InstructionMemoryFrame : Prop :=
  ∀ (i : Instr) (s t : State), exec i s = .next t →
    ((∀ n x, i.shape = .ll n x → 256 ≤ n) → (∀ b, i ≠ .storedByte b) → (∀ n x, i.shape = .dist n x → 30 ≤ n) →
      ∀ a, t.mem.read a = s.mem.read a) ∧
    ((∃ n x, i.shape = .ll n x ∧ n < 256) ∨ (∃ b, i = .storedByte b) →
      (∀ a, a ≠ s.port.dstPtr → t.mem.read a = s.mem.read a) ∧
      (s.port.dstPtr = s.port.dstEnd → t.mem = s.mem)) ∧
    ((∃ n x, i.shape = .dist n x ∧ n < 30) →
      ∀ a, (a < s.port.dstPtr ∨ t.port.dstPtr ≤ a) → t.mem.read a = s.mem.read a)

/-- R30, R31: the flags an instruction may change: BFINAL and BTYPE only a block header (and RESET), EOB a header, the end-of-block
symbol (and RESET), DISABLED an error (and RESET). BUSY no instruction sets: RESET, ADD_HISTORY and WORKBUF_LEN clear it, DECODE
where it ends at once, an element only with the status of its suspension or error, and the elements that have neither leave it. -/
def Obligations.FlagWriters : Prop :=
  ∀ (i : Instr) (s t : State), exec i s = .next t →
    (i ≠ .reset →
      ((∀ n f, i.shape ≠ .header n f) → t.bfinal = s.bfinal ∧ t.btype = s.btype) ∧
      ((∀ n f, i.shape ≠ .header n f) → i ≠ .eob → t.eob = s.eob) ∧
      (t.disabled ≠ s.disabled → t.disabled = true ∧ t.busy = false ∧ 0x10 ≤ t.port.status.code.toNat)) ∧
    (t.busy = true → s.busy = true) ∧
    (i = .reset ∨ i = .addHistory ∨ i = .workbufLen → t.busy = false) ∧
    (i = .decode → if s.disabled = true ∨ s.fsm = .done then t.busy = false else t.busy = s.busy) ∧
    ((∀ c, i.shape ≠ .command c) → t.busy ≠ s.busy → t.EndedWith t.port.status ∧ t.port.status ≠ .ok) ∧
    ((∃ f, i = .blockFixed f ∨ i = .blockDynamic f) ∨ (∃ l, i = .cll l) ∨ i = .eob ∨ (∃ n x, i.shape = .cl n x ∧ n < 16) ∨
        (∃ n x, i.shape = .ll n x ∧ 257 ≤ n ∧ n < 286) → t.busy = s.busy)

/-! ### The whole machine -/

/-- R21, R22, R35, R135: the accumulator, memory, window and control invariants survive every step. -/
def Obligations.StepKeepsInvariant : Prop :=
  ∀ s t : State, s.Inv → step s = .next t → t.Inv

/-- R27, R28, R221, R264, R266: the counters of a dynamic header, the length of a match and what is left of it, the base of a distance
and the checked distance of a copy stay in range. -/
def Obligations.StepKeepsCounters : Prop :=
  ∀ s t : State, s.Inv → s.CountersOk → s.EntriesOk → step s = .next t → t.CountersOk

/-- R150, R156: every entry of the tables that is not EMPTY consumes a bit, and every BASE entry is a length symbol's in TAB[0] and a
distance symbol's in TAB[1], whatever is built. -/
def Obligations.StepKeepsTables : Prop :=
  ∀ s t : State, step s = .next t → (s.TablesOk → t.TablesOk) ∧ (s.EntriesOk → t.EntriesOk)

/-- R41, R340: the operands the engine only reads, and the configuration, are never written, DST_PTR never decreases, and neither does
SRC_PTR. For SRC_PTR, a pass of the fast variant begun with a byte or more held is FastVariantAgrees's: it ends as the slow pass
does. -/
def Obligations.OperandsNeverWritten : Prop :=
  ∀ s t : State, step s = .next t →
    t.par = s.par ∧ t.port.cmd = s.port.cmd ∧ t.port.srcEnd = s.port.srcEnd ∧ t.port.srcClosed = s.port.srcClosed ∧
    t.port.dstEnd = s.port.dstEnd ∧ t.port.wbPtr = s.port.wbPtr ∧ t.port.wbLen = s.port.wbLen ∧
    t.port.hbPtr = s.port.hbPtr ∧ t.port.hbLen = s.port.hbLen ∧ s.port.dstPtr ≤ t.port.dstPtr ∧
    (s.fastReady = false ∨ s.nbits.toNat ≤ 7 → s.port.srcPtr ≤ t.port.srcPtr)

/-- R11, R40, R41, R60, R71: the cursors stay ordered, so no step passes their ends, every address and length register stays inside
its P_ADDR_W bits, and a step writes host memory only at the output positions it has advanced over. -/
def Obligations.OutputOnly : Prop :=
  ∀ s t : State, s.CursorsOk → step s = .next t →
    t.CursorsOk ∧ t.port.srcEnd = s.port.srcEnd ∧ t.port.dstEnd = s.port.dstEnd ∧ (s.PortOk → t.PortOk) ∧
    ∀ a, (a < s.port.dstPtr ∨ t.port.dstPtr ≤ a) → t.mem.read a = s.mem.read a

/-- R301, R304: the bytes a step put out are the newest of the history, in order. -/
def Obligations.OutputIsHistory : Prop :=
  ∀ s t : State, s.MemOk → step s = .next t →
    ∀ d, 1 ≤ d → d ≤ t.port.dstPtr - s.port.dstPtr → d ≤ 32768 → t.mem.read (t.port.dstPtr - d) = t.win.histAt d

/-- R11, R60, R304: what a step does depends on host memory only in the input range and the ADD_HISTORY range. Beside another memory
that agrees there, the step ends the same way, in the same state, with the same output bytes. -/
def Obligations.MemoryIsolation : Prop :=
  ∀ (s : State) (m : Mem), s.CursorsOk → s.MemOk → m.wf = true →
    (∀ a, s.port.srcPtr ≤ a → a < s.port.srcEnd → m.read a = s.mem.read a) →
    (∀ a, s.port.hbPtr ≤ a → a < s.port.hbPtr + s.port.hbLen → m.read a = s.mem.read a) →
    (∀ t, step s = .next t → ∃ m', step (s.withMem m) = .next (t.withMem m') ∧
      ∀ a, s.port.dstPtr ≤ a → a < t.port.dstPtr → m'.read a = t.mem.read a) ∧
    (∀ f, step s = .fault f → step (s.withMem m) = .fault f) ∧
    (∀ r, step s = .refused r → step (s.withMem m) = .refused r)

/-- R372, R376, R411: an error leaves the instance disabled, and only RESET enables it again. -/
def Obligations.DisabledUntilReset : Prop :=
  (∀ s t : State, step s = .next t → s.busy = true → t.busy = false → 0x10 ≤ t.port.status.code.toNat →
    t.disabled = true) ∧
  (∀ s t : State, step s = .next t → s.disabled = true → t.disabled = false → s.decoding = false ∧ s.port.cmd = 0) ∧
  (∀ s : State, s.disabled = true → s.busy = true → s.decoding = false → s.interleaved = false →
    (s.port.cmd = 1 ∨ s.port.cmd = 2) →
    step s = .next { s with
      busy := false, decoding := false, inLoop := false, interleaved := false, port := { s.port with status := .disabled } })

/-- R341, R350: a suspension is answered only with the input used up or the output full, and leaves in FSM a state that can answer
it. -/
def Obligations.Suspensions : Prop :=
  ∀ s t : State, s.par.ThresholdsOk → step s = .next t → s.busy = true → t.busy = false →
    (t.port.status = .shortRead → t.port.srcPtr = t.port.srcEnd ∧
      t.fsm ≠ .litOut ∧ t.fsm ≠ .copy ∧ t.fsm ≠ .fixedInit ∧ t.fsm ≠ .dynBuild ∧ t.fsm ≠ .blockEnd ∧ t.fsm ≠ .done) ∧
    (t.port.status = .shortWrite → t.port.dstPtr = t.port.dstEnd ∧
      (t.fsm = .storedCopy ∨ t.fsm = .litOut ∨ t.fsm = .copy))

/-- R134, R350, R353: split invariance at one suspension: a pass that ran out of input or output, issued again with more of it, ends
exactly as the pass would have ended with all of it there from the start. -/
def Obligations.ResumeAfterSuspension : Prop :=
  ∀ (s u : State) (e : Nat), s.Decoding → s.ControlOk → s.par.fast = false → step s = .next u →
    (u.EndedWith .shortRead → s.port.srcEnd ≤ e → step ((u.withInput e).reissued s) = step (s.withInput e)) ∧
    (u.EndedWith .shortWrite → s.port.dstEnd ≤ e → step ((u.withOutput e).reissued s) = step (s.withOutput e))

/-- R270: with the thresholds R270 names and a built literal/length table, a pass of the fast variant ends exactly as the slow one,
from less than a byte held, or from the bits of an incomplete code, which a suspension has left. How far it reads ahead is the
model's choice (log 11). -/
def Obligations.FastVariantAgrees : Prop :=
  ∀ (s : State) (lens : List Nat), s.Decoding → s.fastReady = true → s.par.ThresholdsOk → s.AccOk →
    (s.nbits.toNat ≤ 7 ∨ s.nbits.toNat < (lookup s.tab0 s.bits).2) →
    s.port.srcEnd ≤ 2 ^ s.par.addrW → BuiltFrom s.par .ll lens s.tab0 →
    step s = mapNext (fun t => t.withFast true) (step (s.withFast false))

/-- R354: every command ends, within a constant times the input bits, the bits held and the output bytes there are. A step is
one pass of the loop (log 1). -/
def Obligations.CommandsTerminate : Prop :=
  ∀ s : State, s.Inv → s.CursorsOk → s.TablesOk →
    endsWithin
      (4 * (8 * (s.port.srcEnd - s.port.srcPtr) + s.nbits.toNat + (s.port.dstEnd - s.port.dstPtr) + 1) + 1) s = true

/-- R60, R420: with the cursors ordered and both ranges inside the address space, no pass of a DECODE faults, and none is refused
(that an access outside the space faults is DEDUCED, log 12). -/
def Obligations.DecodePassNeverStops : Prop :=
  ∀ s : State, s.Decoding → s.CursorsOk → s.port.srcEnd ≤ 2 ^ s.par.addrW → s.port.dstEnd ≤ 2 ^ s.par.addrW →
    ∃ t, step s = .next t
end

