-- ==== Sys2Proof/Laws/State.lean ====
section
/-! SUPPORT. One lemma per field per named update of the state, true by rfl, so that no later proof unfolds an update. -/

namespace Sys2Proof.Machine

/-! ### finish -/

@[simp] theorem State.finish_par (st : Status) (s : State) : (s.finish st).par = s.par := rfl
@[simp] theorem State.finish_mem (st : Status) (s : State) : (s.finish st).mem = s.mem := rfl
@[simp] theorem State.finish_bits (st : Status) (s : State) : (s.finish st).bits = s.bits := rfl
@[simp] theorem State.finish_nbits (st : Status) (s : State) : (s.finish st).nbits = s.nbits := rfl
@[simp] theorem State.finish_fsm (st : Status) (s : State) : (s.finish st).fsm = s.fsm := rfl
@[simp] theorem State.finish_loc (st : Status) (s : State) : (s.finish st).loc = s.loc := rfl
@[simp] theorem State.finish_bfinal (st : Status) (s : State) : (s.finish st).bfinal = s.bfinal := rfl
@[simp] theorem State.finish_btype (st : Status) (s : State) : (s.finish st).btype = s.btype := rfl
@[simp] theorem State.finish_eob (st : Status) (s : State) : (s.finish st).eob = s.eob := rfl
@[simp] theorem State.finish_disabled (st : Status) (s : State) : (s.finish st).disabled = s.disabled := rfl
@[simp] theorem State.finish_busy (st : Status) (s : State) : (s.finish st).busy = false := rfl
@[simp] theorem State.finish_decoding (st : Status) (s : State) : (s.finish st).decoding = false := rfl
@[simp] theorem State.finish_inLoop (st : Status) (s : State) : (s.finish st).inLoop = false := rfl
@[simp] theorem State.finish_interleaved (st : Status) (s : State) : (s.finish st).interleaved = false := rfl
@[simp] theorem State.finish_lens (st : Status) (s : State) : (s.finish st).lens = s.lens := rfl
@[simp] theorem State.finish_tab0 (st : Status) (s : State) : (s.finish st).tab0 = s.tab0 := rfl
@[simp] theorem State.finish_tab1 (st : Status) (s : State) : (s.finish st).tab1 = s.tab1 := rfl
@[simp] theorem State.finish_win (st : Status) (s : State) : (s.finish st).win = s.win := rfl
@[simp] theorem State.finish_port (st : Status) (s : State) : (s.finish st).port = { s.port with status := st } := rfl

/-! ### suspend -/

@[simp] theorem State.suspend_par (st : Status) (s : State) : (s.suspend st).par = s.par := rfl
@[simp] theorem State.suspend_mem (st : Status) (s : State) : (s.suspend st).mem = s.mem := rfl
@[simp] theorem State.suspend_bits (st : Status) (s : State) : (s.suspend st).bits = s.bits := rfl
@[simp] theorem State.suspend_nbits (st : Status) (s : State) : (s.suspend st).nbits = s.nbits := rfl
@[simp] theorem State.suspend_fsm (st : Status) (s : State) : (s.suspend st).fsm = s.fsm := rfl
@[simp] theorem State.suspend_loc (st : Status) (s : State) : (s.suspend st).loc = s.loc := rfl
@[simp] theorem State.suspend_bfinal (st : Status) (s : State) : (s.suspend st).bfinal = s.bfinal := rfl
@[simp] theorem State.suspend_btype (st : Status) (s : State) : (s.suspend st).btype = s.btype := rfl
@[simp] theorem State.suspend_eob (st : Status) (s : State) : (s.suspend st).eob = s.eob := rfl
@[simp] theorem State.suspend_disabled (st : Status) (s : State) : (s.suspend st).disabled = s.disabled := rfl
@[simp] theorem State.suspend_busy (st : Status) (s : State) : (s.suspend st).busy = false := rfl
@[simp] theorem State.suspend_decoding (st : Status) (s : State) : (s.suspend st).decoding = false := rfl
@[simp] theorem State.suspend_inLoop (st : Status) (s : State) : (s.suspend st).inLoop = false := rfl
@[simp] theorem State.suspend_interleaved (st : Status) (s : State) : (s.suspend st).interleaved = false := rfl
@[simp] theorem State.suspend_lens (st : Status) (s : State) : (s.suspend st).lens = s.lens := rfl
@[simp] theorem State.suspend_tab0 (st : Status) (s : State) : (s.suspend st).tab0 = s.tab0 := rfl
@[simp] theorem State.suspend_tab1 (st : Status) (s : State) : (s.suspend st).tab1 = s.tab1 := rfl
@[simp] theorem State.suspend_win (st : Status) (s : State) : (s.suspend st).win = s.win := rfl
@[simp] theorem State.suspend_port (st : Status) (s : State) : (s.suspend st).port = { s.port with status := st } := rfl

/-! ### raise -/

@[simp] theorem State.raise_par (st : Status) (s : State) : (s.raise st).par = s.par := rfl
@[simp] theorem State.raise_mem (st : Status) (s : State) : (s.raise st).mem = s.mem := rfl
@[simp] theorem State.raise_bits (st : Status) (s : State) : (s.raise st).bits = s.bits := rfl
@[simp] theorem State.raise_nbits (st : Status) (s : State) : (s.raise st).nbits = s.nbits := rfl
@[simp] theorem State.raise_fsm (st : Status) (s : State) : (s.raise st).fsm = s.fsm := rfl
@[simp] theorem State.raise_loc (st : Status) (s : State) : (s.raise st).loc = s.loc := rfl
@[simp] theorem State.raise_bfinal (st : Status) (s : State) : (s.raise st).bfinal = s.bfinal := rfl
@[simp] theorem State.raise_btype (st : Status) (s : State) : (s.raise st).btype = s.btype := rfl
@[simp] theorem State.raise_eob (st : Status) (s : State) : (s.raise st).eob = s.eob := rfl
@[simp] theorem State.raise_disabled (st : Status) (s : State) : (s.raise st).disabled = true := rfl
@[simp] theorem State.raise_busy (st : Status) (s : State) : (s.raise st).busy = false := rfl
@[simp] theorem State.raise_decoding (st : Status) (s : State) : (s.raise st).decoding = false := rfl
@[simp] theorem State.raise_inLoop (st : Status) (s : State) : (s.raise st).inLoop = false := rfl
@[simp] theorem State.raise_interleaved (st : Status) (s : State) : (s.raise st).interleaved = false := rfl
@[simp] theorem State.raise_lens (st : Status) (s : State) : (s.raise st).lens = s.lens := rfl
@[simp] theorem State.raise_tab0 (st : Status) (s : State) : (s.raise st).tab0 = s.tab0 := rfl
@[simp] theorem State.raise_tab1 (st : Status) (s : State) : (s.raise st).tab1 = s.tab1 := rfl
@[simp] theorem State.raise_win (st : Status) (s : State) : (s.raise st).win = s.win := rfl
@[simp] theorem State.raise_port (st : Status) (s : State) : (s.raise st).port = { s.port with status := st } := rfl

/-! ### resume -/

@[simp] theorem State.resume_par (s : State) : (s.resume).par = s.par := rfl
@[simp] theorem State.resume_mem (s : State) : (s.resume).mem = s.mem := rfl
@[simp] theorem State.resume_bits (s : State) : (s.resume).bits = s.bits := rfl
@[simp] theorem State.resume_nbits (s : State) : (s.resume).nbits = s.nbits := rfl
@[simp] theorem State.resume_fsm (s : State) : (s.resume).fsm = s.fsm := rfl
@[simp] theorem State.resume_loc (s : State) : (s.resume).loc = s.loc := rfl
@[simp] theorem State.resume_bfinal (s : State) : (s.resume).bfinal = s.bfinal := rfl
@[simp] theorem State.resume_btype (s : State) : (s.resume).btype = s.btype := rfl
@[simp] theorem State.resume_eob (s : State) : (s.resume).eob = s.eob := rfl
@[simp] theorem State.resume_disabled (s : State) : (s.resume).disabled = s.disabled := rfl
@[simp] theorem State.resume_busy (s : State) : (s.resume).busy = s.busy := rfl
@[simp] theorem State.resume_decoding (s : State) : (s.resume).decoding = true := rfl
@[simp] theorem State.resume_inLoop (s : State) : (s.resume).inLoop = s.inLoop := rfl
@[simp] theorem State.resume_interleaved (s : State) : (s.resume).interleaved = s.interleaved := rfl
@[simp] theorem State.resume_lens (s : State) : (s.resume).lens = s.lens := rfl
@[simp] theorem State.resume_tab0 (s : State) : (s.resume).tab0 = s.tab0 := rfl
@[simp] theorem State.resume_tab1 (s : State) : (s.resume).tab1 = s.tab1 := rfl
@[simp] theorem State.resume_win (s : State) : (s.resume).win = s.win := rfl
@[simp] theorem State.resume_port (s : State) : (s.resume).port = s.port := rfl

/-! ### latchHeader -/

@[simp] theorem State.latchHeader_par (s : State) (t : BitVec 2) (f : Bool) : (s.latchHeader t f).par = s.par := rfl
@[simp] theorem State.latchHeader_mem (s : State) (t : BitVec 2) (f : Bool) : (s.latchHeader t f).mem = s.mem := rfl
@[simp] theorem State.latchHeader_bits (s : State) (t : BitVec 2) (f : Bool) : (s.latchHeader t f).bits = s.bits := rfl
@[simp] theorem State.latchHeader_nbits (s : State) (t : BitVec 2) (f : Bool) : (s.latchHeader t f).nbits = s.nbits := rfl
@[simp] theorem State.latchHeader_fsm (s : State) (t : BitVec 2) (f : Bool) : (s.latchHeader t f).fsm = s.fsm := rfl
@[simp] theorem State.latchHeader_loc (s : State) (t : BitVec 2) (f : Bool) : (s.latchHeader t f).loc = s.loc := rfl
@[simp] theorem State.latchHeader_bfinal (s : State) (t : BitVec 2) (f : Bool) : (s.latchHeader t f).bfinal = f := rfl
@[simp] theorem State.latchHeader_btype (s : State) (t : BitVec 2) (f : Bool) : (s.latchHeader t f).btype = t := rfl
@[simp] theorem State.latchHeader_eob (s : State) (t : BitVec 2) (f : Bool) : (s.latchHeader t f).eob = false := rfl
@[simp] theorem State.latchHeader_disabled (s : State) (t : BitVec 2) (f : Bool) : (s.latchHeader t f).disabled = s.disabled := rfl
@[simp] theorem State.latchHeader_busy (s : State) (t : BitVec 2) (f : Bool) : (s.latchHeader t f).busy = s.busy := rfl
@[simp] theorem State.latchHeader_decoding (s : State) (t : BitVec 2) (f : Bool) : (s.latchHeader t f).decoding = s.decoding := rfl
@[simp] theorem State.latchHeader_inLoop (s : State) (t : BitVec 2) (f : Bool) : (s.latchHeader t f).inLoop = s.inLoop := rfl
@[simp] theorem State.latchHeader_interleaved (s : State) (t : BitVec 2) (f : Bool) : (s.latchHeader t f).interleaved = s.interleaved := rfl
@[simp] theorem State.latchHeader_lens (s : State) (t : BitVec 2) (f : Bool) : (s.latchHeader t f).lens = s.lens := rfl
@[simp] theorem State.latchHeader_tab0 (s : State) (t : BitVec 2) (f : Bool) : (s.latchHeader t f).tab0 = s.tab0 := rfl
@[simp] theorem State.latchHeader_tab1 (s : State) (t : BitVec 2) (f : Bool) : (s.latchHeader t f).tab1 = s.tab1 := rfl
@[simp] theorem State.latchHeader_win (s : State) (t : BitVec 2) (f : Bool) : (s.latchHeader t f).win = s.win := rfl
@[simp] theorem State.latchHeader_port (s : State) (t : BitVec 2) (f : Bool) : (s.latchHeader t f).port = s.port := rfl

/-! ### setEob -/

@[simp] theorem State.setEob_par (s : State) : (s.setEob).par = s.par := rfl
@[simp] theorem State.setEob_mem (s : State) : (s.setEob).mem = s.mem := rfl
@[simp] theorem State.setEob_bits (s : State) : (s.setEob).bits = s.bits := rfl
@[simp] theorem State.setEob_nbits (s : State) : (s.setEob).nbits = s.nbits := rfl
@[simp] theorem State.setEob_fsm (s : State) : (s.setEob).fsm = s.fsm := rfl
@[simp] theorem State.setEob_loc (s : State) : (s.setEob).loc = s.loc := rfl
@[simp] theorem State.setEob_bfinal (s : State) : (s.setEob).bfinal = s.bfinal := rfl
@[simp] theorem State.setEob_btype (s : State) : (s.setEob).btype = s.btype := rfl
@[simp] theorem State.setEob_eob (s : State) : (s.setEob).eob = true := rfl
@[simp] theorem State.setEob_disabled (s : State) : (s.setEob).disabled = s.disabled := rfl
@[simp] theorem State.setEob_busy (s : State) : (s.setEob).busy = s.busy := rfl
@[simp] theorem State.setEob_decoding (s : State) : (s.setEob).decoding = s.decoding := rfl
@[simp] theorem State.setEob_inLoop (s : State) : (s.setEob).inLoop = s.inLoop := rfl
@[simp] theorem State.setEob_interleaved (s : State) : (s.setEob).interleaved = s.interleaved := rfl
@[simp] theorem State.setEob_lens (s : State) : (s.setEob).lens = s.lens := rfl
@[simp] theorem State.setEob_tab0 (s : State) : (s.setEob).tab0 = s.tab0 := rfl
@[simp] theorem State.setEob_tab1 (s : State) : (s.setEob).tab1 = s.tab1 := rfl
@[simp] theorem State.setEob_win (s : State) : (s.setEob).win = s.win := rfl
@[simp] theorem State.setEob_port (s : State) : (s.setEob).port = s.port := rfl

/-! ### refilled -/

@[simp] theorem State.refilled_par (s : State) : (s.refilled).par = s.par := rfl
@[simp] theorem State.refilled_mem (s : State) : (s.refilled).mem = s.mem := rfl
@[simp] theorem State.refilled_bits (s : State) : (s.refilled).bits = s.bits ||| ((s.mem.read s.port.srcPtr).setWidth 32 <<< s.nbits.toNat) := rfl
@[simp] theorem State.refilled_nbits (s : State) : (s.refilled).nbits = s.nbits + 8 := rfl
@[simp] theorem State.refilled_fsm (s : State) : (s.refilled).fsm = s.fsm := rfl
@[simp] theorem State.refilled_loc (s : State) : (s.refilled).loc = s.loc := rfl
@[simp] theorem State.refilled_bfinal (s : State) : (s.refilled).bfinal = s.bfinal := rfl
@[simp] theorem State.refilled_btype (s : State) : (s.refilled).btype = s.btype := rfl
@[simp] theorem State.refilled_eob (s : State) : (s.refilled).eob = s.eob := rfl
@[simp] theorem State.refilled_disabled (s : State) : (s.refilled).disabled = s.disabled := rfl
@[simp] theorem State.refilled_busy (s : State) : (s.refilled).busy = s.busy := rfl
@[simp] theorem State.refilled_decoding (s : State) : (s.refilled).decoding = s.decoding := rfl
@[simp] theorem State.refilled_inLoop (s : State) : (s.refilled).inLoop = s.inLoop := rfl
@[simp] theorem State.refilled_interleaved (s : State) : (s.refilled).interleaved = s.interleaved := rfl
@[simp] theorem State.refilled_lens (s : State) : (s.refilled).lens = s.lens := rfl
@[simp] theorem State.refilled_tab0 (s : State) : (s.refilled).tab0 = s.tab0 := rfl
@[simp] theorem State.refilled_tab1 (s : State) : (s.refilled).tab1 = s.tab1 := rfl
@[simp] theorem State.refilled_win (s : State) : (s.refilled).win = s.win := rfl
@[simp] theorem State.refilled_port (s : State) : (s.refilled).port = { s.port with srcPtr := s.port.srcPtr + 1 } := rfl

/-! ### consume -/

@[simp] theorem State.consume_par (n : Nat) (s : State) : (s.consume n).par = s.par := rfl
@[simp] theorem State.consume_mem (n : Nat) (s : State) : (s.consume n).mem = s.mem := rfl
@[simp] theorem State.consume_bits (n : Nat) (s : State) : (s.consume n).bits = s.bits >>> n := rfl
@[simp] theorem State.consume_nbits (n : Nat) (s : State) : (s.consume n).nbits = s.nbits - BitVec.ofNat 6 n := rfl
@[simp] theorem State.consume_fsm (n : Nat) (s : State) : (s.consume n).fsm = s.fsm := rfl
@[simp] theorem State.consume_loc (n : Nat) (s : State) : (s.consume n).loc = s.loc := rfl
@[simp] theorem State.consume_bfinal (n : Nat) (s : State) : (s.consume n).bfinal = s.bfinal := rfl
@[simp] theorem State.consume_btype (n : Nat) (s : State) : (s.consume n).btype = s.btype := rfl
@[simp] theorem State.consume_eob (n : Nat) (s : State) : (s.consume n).eob = s.eob := rfl
@[simp] theorem State.consume_disabled (n : Nat) (s : State) : (s.consume n).disabled = s.disabled := rfl
@[simp] theorem State.consume_busy (n : Nat) (s : State) : (s.consume n).busy = s.busy := rfl
@[simp] theorem State.consume_decoding (n : Nat) (s : State) : (s.consume n).decoding = s.decoding := rfl
@[simp] theorem State.consume_inLoop (n : Nat) (s : State) : (s.consume n).inLoop = s.inLoop := rfl
@[simp] theorem State.consume_interleaved (n : Nat) (s : State) : (s.consume n).interleaved = s.interleaved := rfl
@[simp] theorem State.consume_lens (n : Nat) (s : State) : (s.consume n).lens = s.lens := rfl
@[simp] theorem State.consume_tab0 (n : Nat) (s : State) : (s.consume n).tab0 = s.tab0 := rfl
@[simp] theorem State.consume_tab1 (n : Nat) (s : State) : (s.consume n).tab1 = s.tab1 := rfl
@[simp] theorem State.consume_win (n : Nat) (s : State) : (s.consume n).win = s.win := rfl
@[simp] theorem State.consume_port (n : Nat) (s : State) : (s.consume n).port = s.port := rfl

/-! ### giveBack -/

@[simp] theorem State.giveBack_par (s : State) : (s.giveBack).par = s.par := rfl
@[simp] theorem State.giveBack_mem (s : State) : (s.giveBack).mem = s.mem := rfl
@[simp] theorem State.giveBack_bits (s : State) : (s.giveBack).bits = s.bits &&& BitVec.ofNat 32 (2 ^ (s.nbits.toNat - 8 * (s.nbits.toNat / 8)) - 1) := rfl
@[simp] theorem State.giveBack_nbits (s : State) : (s.giveBack).nbits = BitVec.ofNat 6 (s.nbits.toNat - 8 * (s.nbits.toNat / 8)) := rfl
@[simp] theorem State.giveBack_fsm (s : State) : (s.giveBack).fsm = s.fsm := rfl
@[simp] theorem State.giveBack_loc (s : State) : (s.giveBack).loc = s.loc := rfl
@[simp] theorem State.giveBack_bfinal (s : State) : (s.giveBack).bfinal = s.bfinal := rfl
@[simp] theorem State.giveBack_btype (s : State) : (s.giveBack).btype = s.btype := rfl
@[simp] theorem State.giveBack_eob (s : State) : (s.giveBack).eob = s.eob := rfl
@[simp] theorem State.giveBack_disabled (s : State) : (s.giveBack).disabled = s.disabled := rfl
@[simp] theorem State.giveBack_busy (s : State) : (s.giveBack).busy = s.busy := rfl
@[simp] theorem State.giveBack_decoding (s : State) : (s.giveBack).decoding = s.decoding := rfl
@[simp] theorem State.giveBack_inLoop (s : State) : (s.giveBack).inLoop = s.inLoop := rfl
@[simp] theorem State.giveBack_interleaved (s : State) : (s.giveBack).interleaved = s.interleaved := rfl
@[simp] theorem State.giveBack_lens (s : State) : (s.giveBack).lens = s.lens := rfl
@[simp] theorem State.giveBack_tab0 (s : State) : (s.giveBack).tab0 = s.tab0 := rfl
@[simp] theorem State.giveBack_tab1 (s : State) : (s.giveBack).tab1 = s.tab1 := rfl
@[simp] theorem State.giveBack_win (s : State) : (s.giveBack).win = s.win := rfl
@[simp] theorem State.giveBack_port (s : State) : (s.giveBack).port = { s.port with srcPtr := s.port.srcPtr - s.nbits.toNat / 8 } := rfl

/-! ### setLen -/

@[simp] theorem State.setLen_par (s : State) (i : Nat) (v : BitVec 4) : (s.setLen i v).par = s.par := rfl
@[simp] theorem State.setLen_mem (s : State) (i : Nat) (v : BitVec 4) : (s.setLen i v).mem = s.mem := rfl
@[simp] theorem State.setLen_bits (s : State) (i : Nat) (v : BitVec 4) : (s.setLen i v).bits = s.bits := rfl
@[simp] theorem State.setLen_nbits (s : State) (i : Nat) (v : BitVec 4) : (s.setLen i v).nbits = s.nbits := rfl
@[simp] theorem State.setLen_fsm (s : State) (i : Nat) (v : BitVec 4) : (s.setLen i v).fsm = s.fsm := rfl
@[simp] theorem State.setLen_loc (s : State) (i : Nat) (v : BitVec 4) : (s.setLen i v).loc = s.loc := rfl
@[simp] theorem State.setLen_bfinal (s : State) (i : Nat) (v : BitVec 4) : (s.setLen i v).bfinal = s.bfinal := rfl
@[simp] theorem State.setLen_btype (s : State) (i : Nat) (v : BitVec 4) : (s.setLen i v).btype = s.btype := rfl
@[simp] theorem State.setLen_eob (s : State) (i : Nat) (v : BitVec 4) : (s.setLen i v).eob = s.eob := rfl
@[simp] theorem State.setLen_disabled (s : State) (i : Nat) (v : BitVec 4) : (s.setLen i v).disabled = s.disabled := rfl
@[simp] theorem State.setLen_busy (s : State) (i : Nat) (v : BitVec 4) : (s.setLen i v).busy = s.busy := rfl
@[simp] theorem State.setLen_decoding (s : State) (i : Nat) (v : BitVec 4) : (s.setLen i v).decoding = s.decoding := rfl
@[simp] theorem State.setLen_inLoop (s : State) (i : Nat) (v : BitVec 4) : (s.setLen i v).inLoop = s.inLoop := rfl
@[simp] theorem State.setLen_interleaved (s : State) (i : Nat) (v : BitVec 4) : (s.setLen i v).interleaved = s.interleaved := rfl
@[simp] theorem State.setLen_lens (s : State) (i : Nat) (v : BitVec 4) : (s.setLen i v).lens = s.lens.setIfInBounds i v := rfl
@[simp] theorem State.setLen_tab0 (s : State) (i : Nat) (v : BitVec 4) : (s.setLen i v).tab0 = s.tab0 := rfl
@[simp] theorem State.setLen_tab1 (s : State) (i : Nat) (v : BitVec 4) : (s.setLen i v).tab1 = s.tab1 := rfl
@[simp] theorem State.setLen_win (s : State) (i : Nat) (v : BitVec 4) : (s.setLen i v).win = s.win := rfl
@[simp] theorem State.setLen_port (s : State) (i : Nat) (v : BitVec 4) : (s.setLen i v).port = s.port := rfl

/-! ### emitted -/

@[simp] theorem State.emitted_par (s : State) (b : Byte) : (s.emitted b).par = s.par := rfl
@[simp] theorem State.emitted_mem (s : State) (b : Byte) : (s.emitted b).mem = s.mem.write s.port.dstPtr b := rfl
@[simp] theorem State.emitted_bits (s : State) (b : Byte) : (s.emitted b).bits = s.bits := rfl
@[simp] theorem State.emitted_nbits (s : State) (b : Byte) : (s.emitted b).nbits = s.nbits := rfl
@[simp] theorem State.emitted_fsm (s : State) (b : Byte) : (s.emitted b).fsm = s.fsm := rfl
@[simp] theorem State.emitted_loc (s : State) (b : Byte) : (s.emitted b).loc = s.loc := rfl
@[simp] theorem State.emitted_bfinal (s : State) (b : Byte) : (s.emitted b).bfinal = s.bfinal := rfl
@[simp] theorem State.emitted_btype (s : State) (b : Byte) : (s.emitted b).btype = s.btype := rfl
@[simp] theorem State.emitted_eob (s : State) (b : Byte) : (s.emitted b).eob = s.eob := rfl
@[simp] theorem State.emitted_disabled (s : State) (b : Byte) : (s.emitted b).disabled = s.disabled := rfl
@[simp] theorem State.emitted_busy (s : State) (b : Byte) : (s.emitted b).busy = s.busy := rfl
@[simp] theorem State.emitted_decoding (s : State) (b : Byte) : (s.emitted b).decoding = s.decoding := rfl
@[simp] theorem State.emitted_inLoop (s : State) (b : Byte) : (s.emitted b).inLoop = s.inLoop := rfl
@[simp] theorem State.emitted_interleaved (s : State) (b : Byte) : (s.emitted b).interleaved = s.interleaved := rfl
@[simp] theorem State.emitted_lens (s : State) (b : Byte) : (s.emitted b).lens = s.lens := rfl
@[simp] theorem State.emitted_tab0 (s : State) (b : Byte) : (s.emitted b).tab0 = s.tab0 := rfl
@[simp] theorem State.emitted_tab1 (s : State) (b : Byte) : (s.emitted b).tab1 = s.tab1 := rfl
@[simp] theorem State.emitted_win (s : State) (b : Byte) : (s.emitted b).win = s.win.append b := rfl
@[simp] theorem State.emitted_port (s : State) (b : Byte) : (s.emitted b).port = { s.port with dstPtr := s.port.dstPtr + 1 } := rfl

/-! ### appended -/

@[simp] theorem State.appended_par (s : State) (b : Byte) : (s.appended b).par = s.par := rfl
@[simp] theorem State.appended_mem (s : State) (b : Byte) : (s.appended b).mem = s.mem := rfl
@[simp] theorem State.appended_bits (s : State) (b : Byte) : (s.appended b).bits = s.bits := rfl
@[simp] theorem State.appended_nbits (s : State) (b : Byte) : (s.appended b).nbits = s.nbits := rfl
@[simp] theorem State.appended_fsm (s : State) (b : Byte) : (s.appended b).fsm = s.fsm := rfl
@[simp] theorem State.appended_loc (s : State) (b : Byte) : (s.appended b).loc = s.loc := rfl
@[simp] theorem State.appended_bfinal (s : State) (b : Byte) : (s.appended b).bfinal = s.bfinal := rfl
@[simp] theorem State.appended_btype (s : State) (b : Byte) : (s.appended b).btype = s.btype := rfl
@[simp] theorem State.appended_eob (s : State) (b : Byte) : (s.appended b).eob = s.eob := rfl
@[simp] theorem State.appended_disabled (s : State) (b : Byte) : (s.appended b).disabled = s.disabled := rfl
@[simp] theorem State.appended_busy (s : State) (b : Byte) : (s.appended b).busy = s.busy := rfl
@[simp] theorem State.appended_decoding (s : State) (b : Byte) : (s.appended b).decoding = s.decoding := rfl
@[simp] theorem State.appended_inLoop (s : State) (b : Byte) : (s.appended b).inLoop = s.inLoop := rfl
@[simp] theorem State.appended_interleaved (s : State) (b : Byte) : (s.appended b).interleaved = s.interleaved := rfl
@[simp] theorem State.appended_lens (s : State) (b : Byte) : (s.appended b).lens = s.lens := rfl
@[simp] theorem State.appended_tab0 (s : State) (b : Byte) : (s.appended b).tab0 = s.tab0 := rfl
@[simp] theorem State.appended_tab1 (s : State) (b : Byte) : (s.appended b).tab1 = s.tab1 := rfl
@[simp] theorem State.appended_win (s : State) (b : Byte) : (s.appended b).win = s.win.append b := rfl
@[simp] theorem State.appended_port (s : State) (b : Byte) : (s.appended b).port = s.port := rfl

/-! ### copied -/

@[simp] theorem State.copied_par (s : State) : (s.copied).par = s.par := rfl
@[simp] theorem State.copied_mem (s : State) : (s.copied).mem = s.mem.write s.port.dstPtr (s.win.histAt s.loc.dist.toNat) := rfl
@[simp] theorem State.copied_bits (s : State) : (s.copied).bits = s.bits := rfl
@[simp] theorem State.copied_nbits (s : State) : (s.copied).nbits = s.nbits := rfl
@[simp] theorem State.copied_fsm (s : State) : (s.copied).fsm = s.fsm := rfl
@[simp] theorem State.copied_loc (s : State) : (s.copied).loc = { s.loc with rem := s.loc.rem - 1 } := rfl
@[simp] theorem State.copied_bfinal (s : State) : (s.copied).bfinal = s.bfinal := rfl
@[simp] theorem State.copied_btype (s : State) : (s.copied).btype = s.btype := rfl
@[simp] theorem State.copied_eob (s : State) : (s.copied).eob = s.eob := rfl
@[simp] theorem State.copied_disabled (s : State) : (s.copied).disabled = s.disabled := rfl
@[simp] theorem State.copied_busy (s : State) : (s.copied).busy = s.busy := rfl
@[simp] theorem State.copied_decoding (s : State) : (s.copied).decoding = s.decoding := rfl
@[simp] theorem State.copied_inLoop (s : State) : (s.copied).inLoop = s.inLoop := rfl
@[simp] theorem State.copied_interleaved (s : State) : (s.copied).interleaved = s.interleaved := rfl
@[simp] theorem State.copied_lens (s : State) : (s.copied).lens = s.lens := rfl
@[simp] theorem State.copied_tab0 (s : State) : (s.copied).tab0 = s.tab0 := rfl
@[simp] theorem State.copied_tab1 (s : State) : (s.copied).tab1 = s.tab1 := rfl
@[simp] theorem State.copied_win (s : State) : (s.copied).win = s.win.append (s.win.histAt s.loc.dist.toNat) := rfl
@[simp] theorem State.copied_port (s : State) : (s.copied).port = { s.port with dstPtr := s.port.dstPtr + 1 } := rfl

/-! ### latchRepeat -/

@[simp] theorem State.latchRepeat_par (s : State) (y : BitVec 5) : (s.latchRepeat y).par = s.par := rfl
@[simp] theorem State.latchRepeat_mem (s : State) (y : BitVec 5) : (s.latchRepeat y).mem = s.mem := rfl
@[simp] theorem State.latchRepeat_bits (s : State) (y : BitVec 5) : (s.latchRepeat y).bits = s.bits := rfl
@[simp] theorem State.latchRepeat_nbits (s : State) (y : BitVec 5) : (s.latchRepeat y).nbits = s.nbits := rfl
@[simp] theorem State.latchRepeat_fsm (s : State) (y : BitVec 5) : (s.latchRepeat y).fsm = .dynLensExtra := rfl
@[simp] theorem State.latchRepeat_loc (s : State) (y : BitVec 5) : (s.latchRepeat y).loc = { s.loc with repsym := y } := rfl
@[simp] theorem State.latchRepeat_bfinal (s : State) (y : BitVec 5) : (s.latchRepeat y).bfinal = s.bfinal := rfl
@[simp] theorem State.latchRepeat_btype (s : State) (y : BitVec 5) : (s.latchRepeat y).btype = s.btype := rfl
@[simp] theorem State.latchRepeat_eob (s : State) (y : BitVec 5) : (s.latchRepeat y).eob = s.eob := rfl
@[simp] theorem State.latchRepeat_disabled (s : State) (y : BitVec 5) : (s.latchRepeat y).disabled = s.disabled := rfl
@[simp] theorem State.latchRepeat_busy (s : State) (y : BitVec 5) : (s.latchRepeat y).busy = s.busy := rfl
@[simp] theorem State.latchRepeat_decoding (s : State) (y : BitVec 5) : (s.latchRepeat y).decoding = s.decoding := rfl
@[simp] theorem State.latchRepeat_inLoop (s : State) (y : BitVec 5) : (s.latchRepeat y).inLoop = s.inLoop := rfl
@[simp] theorem State.latchRepeat_interleaved (s : State) (y : BitVec 5) : (s.latchRepeat y).interleaved = s.interleaved := rfl
@[simp] theorem State.latchRepeat_lens (s : State) (y : BitVec 5) : (s.latchRepeat y).lens = s.lens := rfl
@[simp] theorem State.latchRepeat_tab0 (s : State) (y : BitVec 5) : (s.latchRepeat y).tab0 = s.tab0 := rfl
@[simp] theorem State.latchRepeat_tab1 (s : State) (y : BitVec 5) : (s.latchRepeat y).tab1 = s.tab1 := rfl
@[simp] theorem State.latchRepeat_win (s : State) (y : BitVec 5) : (s.latchRepeat y).win = s.win := rfl
@[simp] theorem State.latchRepeat_port (s : State) (y : BitVec 5) : (s.latchRepeat y).port = s.port := rfl

/-! ### latchLen -/

@[simp] theorem State.latchLen_par (s : State) (b : BitVec 9) (n : BitVec 3) : (s.latchLen b n).par = s.par := rfl
@[simp] theorem State.latchLen_mem (s : State) (b : BitVec 9) (n : BitVec 3) : (s.latchLen b n).mem = s.mem := rfl
@[simp] theorem State.latchLen_bits (s : State) (b : BitVec 9) (n : BitVec 3) : (s.latchLen b n).bits = s.bits := rfl
@[simp] theorem State.latchLen_nbits (s : State) (b : BitVec 9) (n : BitVec 3) : (s.latchLen b n).nbits = s.nbits := rfl
@[simp] theorem State.latchLen_fsm (s : State) (b : BitVec 9) (n : BitVec 3) : (s.latchLen b n).fsm = .lenExtra := rfl
@[simp] theorem State.latchLen_loc (s : State) (b : BitVec 9) (n : BitVec 3) : (s.latchLen b n).loc = { s.loc with lbase := b, lnx := n } := rfl
@[simp] theorem State.latchLen_bfinal (s : State) (b : BitVec 9) (n : BitVec 3) : (s.latchLen b n).bfinal = s.bfinal := rfl
@[simp] theorem State.latchLen_btype (s : State) (b : BitVec 9) (n : BitVec 3) : (s.latchLen b n).btype = s.btype := rfl
@[simp] theorem State.latchLen_eob (s : State) (b : BitVec 9) (n : BitVec 3) : (s.latchLen b n).eob = s.eob := rfl
@[simp] theorem State.latchLen_disabled (s : State) (b : BitVec 9) (n : BitVec 3) : (s.latchLen b n).disabled = s.disabled := rfl
@[simp] theorem State.latchLen_busy (s : State) (b : BitVec 9) (n : BitVec 3) : (s.latchLen b n).busy = s.busy := rfl
@[simp] theorem State.latchLen_decoding (s : State) (b : BitVec 9) (n : BitVec 3) : (s.latchLen b n).decoding = s.decoding := rfl
@[simp] theorem State.latchLen_inLoop (s : State) (b : BitVec 9) (n : BitVec 3) : (s.latchLen b n).inLoop = s.inLoop := rfl
@[simp] theorem State.latchLen_interleaved (s : State) (b : BitVec 9) (n : BitVec 3) : (s.latchLen b n).interleaved = s.interleaved := rfl
@[simp] theorem State.latchLen_lens (s : State) (b : BitVec 9) (n : BitVec 3) : (s.latchLen b n).lens = s.lens := rfl
@[simp] theorem State.latchLen_tab0 (s : State) (b : BitVec 9) (n : BitVec 3) : (s.latchLen b n).tab0 = s.tab0 := rfl
@[simp] theorem State.latchLen_tab1 (s : State) (b : BitVec 9) (n : BitVec 3) : (s.latchLen b n).tab1 = s.tab1 := rfl
@[simp] theorem State.latchLen_win (s : State) (b : BitVec 9) (n : BitVec 3) : (s.latchLen b n).win = s.win := rfl
@[simp] theorem State.latchLen_port (s : State) (b : BitVec 9) (n : BitVec 3) : (s.latchLen b n).port = s.port := rfl

/-! ### latchDist -/

@[simp] theorem State.latchDist_par (s : State) (b : BitVec 15) (n : BitVec 4) : (s.latchDist b n).par = s.par := rfl
@[simp] theorem State.latchDist_mem (s : State) (b : BitVec 15) (n : BitVec 4) : (s.latchDist b n).mem = s.mem := rfl
@[simp] theorem State.latchDist_bits (s : State) (b : BitVec 15) (n : BitVec 4) : (s.latchDist b n).bits = s.bits := rfl
@[simp] theorem State.latchDist_nbits (s : State) (b : BitVec 15) (n : BitVec 4) : (s.latchDist b n).nbits = s.nbits := rfl
@[simp] theorem State.latchDist_fsm (s : State) (b : BitVec 15) (n : BitVec 4) : (s.latchDist b n).fsm = .distExtra := rfl
@[simp] theorem State.latchDist_loc (s : State) (b : BitVec 15) (n : BitVec 4) : (s.latchDist b n).loc = { s.loc with dbase := b, dnx := n } := rfl
@[simp] theorem State.latchDist_bfinal (s : State) (b : BitVec 15) (n : BitVec 4) : (s.latchDist b n).bfinal = s.bfinal := rfl
@[simp] theorem State.latchDist_btype (s : State) (b : BitVec 15) (n : BitVec 4) : (s.latchDist b n).btype = s.btype := rfl
@[simp] theorem State.latchDist_eob (s : State) (b : BitVec 15) (n : BitVec 4) : (s.latchDist b n).eob = s.eob := rfl
@[simp] theorem State.latchDist_disabled (s : State) (b : BitVec 15) (n : BitVec 4) : (s.latchDist b n).disabled = s.disabled := rfl
@[simp] theorem State.latchDist_busy (s : State) (b : BitVec 15) (n : BitVec 4) : (s.latchDist b n).busy = s.busy := rfl
@[simp] theorem State.latchDist_decoding (s : State) (b : BitVec 15) (n : BitVec 4) : (s.latchDist b n).decoding = s.decoding := rfl
@[simp] theorem State.latchDist_inLoop (s : State) (b : BitVec 15) (n : BitVec 4) : (s.latchDist b n).inLoop = s.inLoop := rfl
@[simp] theorem State.latchDist_interleaved (s : State) (b : BitVec 15) (n : BitVec 4) : (s.latchDist b n).interleaved = s.interleaved := rfl
@[simp] theorem State.latchDist_lens (s : State) (b : BitVec 15) (n : BitVec 4) : (s.latchDist b n).lens = s.lens := rfl
@[simp] theorem State.latchDist_tab0 (s : State) (b : BitVec 15) (n : BitVec 4) : (s.latchDist b n).tab0 = s.tab0 := rfl
@[simp] theorem State.latchDist_tab1 (s : State) (b : BitVec 15) (n : BitVec 4) : (s.latchDist b n).tab1 = s.tab1 := rfl
@[simp] theorem State.latchDist_win (s : State) (b : BitVec 15) (n : BitVec 4) : (s.latchDist b n).win = s.win := rfl
@[simp] theorem State.latchDist_port (s : State) (b : BitVec 15) (n : BitVec 4) : (s.latchDist b n).port = s.port := rfl

end Sys2Proof.Machine
end

