-- ==== Sys2Proof/Laws/Dispatch.lean ====
section
/-! SUPPORT. exec by an instruction's shape: the 352 arms fall into ten forms, so a statement about a family of symbols is proved
once, with the symbol as a number. -/

namespace Sys2Proof.Machine

/-- What exec does, written over an instruction's fields (spec/opcode_table.json). -/
def shapeMeaning : Shape → State → Result
  | .header t f, s =>
    if t = 0 then alignToStored (s.latchHeader 0 f)
    else if t = 1 then .next { s.latchHeader 1 f with fsm := .fixedInit }
    else if t = 2 then .next { s.latchHeader 2 f with fsm := .dynHdr }
    else .next ((s.latchHeader 3 f).raise .badBlockType)
  | .pad _ _, s => alignToStored s
  | .storedLen len nlen, s => execStoredLen len nlen s
  | .storedByte b, s => execStoredByte b s
  | .dynHdr hlit hdist hclen, s => execDynHdr hlit hdist hclen s
  | .cll l, s => execCll l s
  | .cl n x, s =>
    if n < 16 then codeLength (BitVec.ofNat 4 n) s
    else if n = 16 ∧ s.loc.i = 0 then .next (s.raise .badCodeLengthRepeat)
    else applyRepeat x (s.latchRepeat (BitVec.ofNat 5 n))
  | .ll n x, s =>
    if n < 256 then literal (BitVec.ofNat 8 n) s
    else if n = 256 then endOfBlock s
    else if n < 286 then
      lengthSymbol (BitVec.ofNat 9 (lenBase.getD (n - 257) 0)) (BitVec.ofNat 3 (lenExtra.getD (n - 257) 0)) x s
    else badCode s
  | .dist n x, s =>
    if n < 30 then distSymbol (BitVec.ofNat 15 (distBase.getD n 0)) (BitVec.ofNat 4 (distExtra.getD n 0)) x s
    else badCode s
  | .command c, s =>
    if c = 0 then execReset s
    else if c = 1 then execDecode s
    else if c = 2 then execAddHistory s
    else execWorkbufLen s

/-- Each arm of exec is its shape's meaning. -/
theorem exec_eq_meaning (i : Instr) (s : State) : exec i s = shapeMeaning i.shape s := by
  cases i
  case clRepPrev x =>
    by_cases h : s.loc.i = 0 <;> simp [exec, execClRepPrev, Instr.shape, shapeMeaning, h]
  all_goals rfl

/-- `exec` of the instruction a table numbers `n`. -/
theorem exec_of_shape {i : Instr} {h : Shape} (hi : i.shape = h) (s : State) : exec i s = shapeMeaning h s := by
  rw [exec_eq_meaning, hi]

/-- A pass that fetches an instruction. -/
theorem pass_of_instr {s t : State} {i : Instr} (hf : fetch s = .instr i t) : pass s = exec i t := by simp [pass, hf]

/-- A pass that is the engine's own move. -/
theorem pass_of_engine {s : State} {o : Result} (hf : fetch s = .engine o) : pass s = o := by simp [pass, hf]

/-- A pass is an instruction or a move. -/
theorem pass_cases (s : State) :
    (∃ i t, fetch s = .instr i t ∧ pass s = exec i t) ∨ ∃ o, fetch s = .engine o ∧ pass s = o := by
  cases hf : fetch s with
  | instr i t => exact .inl ⟨i, t, rfl, pass_of_instr hf⟩
  | engine o => exact .inr ⟨o, rfl, pass_of_engine hf⟩

/-- With no report owed a pass answers for itself. -/
@[simp] theorem settleOwed_false (o : Result) : settleOwed false o = o := by cases o <;> rfl

/-- With a report owed, a pass that leaves the command running answers for itself. -/
theorem settleOwed_busy {t : State} (h : t.busy = true) (b : Bool) : settleOwed b (.next t) = .next t := by
  simp [settleOwed, h]

/-- With a report owed, a pass that ends the command is reported as interleaved. -/
theorem settleOwed_ended {t : State} (h : t.busy = false) : settleOwed true (.next t) = .next (t.raise .interleaved) := by
  simp [settleOwed, h]

/-- What `settleOwed` makes of a next state: the state, or its report where the command has ended. -/
theorem settleOwed_next {b : Bool} {o : Result} {t : State} (h : settleOwed b o = .next t) :
    o = .next t ∨ ∃ u, o = .next u ∧ u.busy = false ∧ t = u.raise .interleaved := by
  cases o with
  | next u =>
    cases hb : u.busy
    · cases b
      · exact .inl (by simpa using h)
      · exact .inr ⟨u, rfl, hb, by simpa [settleOwed, hb, eq_comm] using h⟩
    · exact .inl (by simpa [settleOwed, hb] using h)
  | fault f => cases h
  | refused r => cases h

/-- A step of an idle engine. -/
theorem step_idle {s : State} (h : s.busy = false) : step s = .next s := by simp [step, h]

/-- A step that reports an interleaved command at a state boundary. -/
theorem step_interleaved {s : State} (h : s.busy = true) (hi : s.reportDue = true) :
    step s = .next (s.raise .interleaved) := by simp [step, h, hi]

/-- A step that owes no report is a pass. -/
theorem step_of_pass {s : State} (h : s.busy = true) (hi : s.interleaved = false) : step s = pass s := by
  simp [step, h, hi, State.reportDue]

/-- A step inside a state's loop that owes a report is a pass, reported if it ends the command. -/
theorem step_of_owed {s : State} (h : s.busy = true) (hi : s.interleaved = true) (hl : s.inLoop = true) :
    step s = settleOwed true (pass s) := by simp [step, h, hi, hl, State.reportDue]

/-- A step that fetches an instruction. -/
theorem step_of_instr {s t : State} {i : Instr} (h : s.busy = true) (hi : s.interleaved = false) (hf : fetch s = .instr i t) :
    step s = exec i t := by rw [step_of_pass h hi, pass_of_instr hf]

/-- A step that is the engine's own move. -/
theorem step_of_engine {s : State} {o : Result} (h : s.busy = true) (hi : s.interleaved = false) (hf : fetch s = .engine o) :
    step s = o := by rw [step_of_pass h hi, pass_of_engine hf]

/-- Everything a step can be. -/
theorem step_cases (s : State) :
    (s.busy = false ∧ step s = .next s) ∨
    (s.busy = true ∧ s.interleaved = true ∧ s.inLoop = false ∧ step s = .next (s.raise .interleaved)) ∨
    (s.busy = true ∧ s.interleaved = true ∧ s.inLoop = true ∧ step s = settleOwed true (pass s)) ∨
    (s.busy = true ∧ s.interleaved = false ∧ step s = pass s) := by
  cases hb : s.busy
  · exact .inl ⟨rfl, step_idle hb⟩
  cases hi : s.interleaved
  · exact .inr (.inr (.inr ⟨rfl, rfl, step_of_pass hb hi⟩))
  cases hl : s.inLoop
  · exact .inr (.inl ⟨rfl, rfl, rfl, step_interleaved hb (by simp [State.reportDue, hi, hl])⟩)
  · exact .inr (.inr (.inl ⟨rfl, rfl, rfl, step_of_owed hb hi hl⟩))

/-- Every next state is a pass's, the idle one, or a report on either. -/
theorem step_next {s t : State} (h : step s = .next t) :
    t = s ∨ (s.busy = true ∧ pass s = .next t) ∨
    s.busy = true ∧ ∃ u, (u = s ∨ (pass s = .next u ∧ u.busy = false)) ∧ t = u.raise .interleaved := by
  rcases step_cases s with ⟨_, hs⟩ | ⟨hb, _, _, hs⟩ | ⟨hb, _, _, hs⟩ | ⟨hb, _, hs⟩ <;> rw [hs] at h
  · exact .inl (by simpa [eq_comm] using h)
  · exact .inr (.inr ⟨hb, s, .inl rfl, by simpa [eq_comm] using h⟩)
  · rcases settleOwed_next h with hp | ⟨u, hp, hu, ht⟩
    · exact .inr (.inl ⟨hb, hp⟩)
    · exact .inr (.inr ⟨hb, u, .inr ⟨hp, hu⟩, ht⟩)
  · exact .inr (.inl ⟨hb, h⟩)

end Sys2Proof.Machine
end

