-- ==== Sys2Proof/Laws/Huffman.lean ====
section
/-! SUPPORT. Facts about particular codes and about entries, evaluated once: the fixed code builds in every configuration, and an
entry's fields are what was packed. -/

namespace Sys2Proof.Machine

/-- A complete code whose shortest length is at most 9 and whose sub-tables fit the arena builds (R154, R161, R165). -/
theorem build_of_complete {p : Params} {A : Alphabet} {lens : List Nat} (hk : kraftLoop lens (shortLengths ++ longLengths) 1 = some 0)
    (hu : (usedLengths lens).headD 1 ≤ 9) (hs : (subTables lens).2 ≤ 1024) : build p A lens = .ok (tableOf A lens) := by
  rw [build, hk]
  dsimp only
  rw [if_neg (by simp), if_neg (by omega), if_neg (by omega)]

theorem kraft_fixedLL : kraftLoop fixedLL (shortLengths ++ longLengths) 1 = some 0 := by decide +kernel
theorem used_fixedLL : (usedLengths fixedLL).headD 1 ≤ 9 := by decide +kernel
theorem arena_fixedLL : (subTables fixedLL).2 ≤ 1024 := by decide +kernel
theorem kraft_fixedD : kraftLoop fixedD (shortLengths ++ longLengths) 1 = some 0 := by decide +kernel
theorem used_fixedD : (usedLengths fixedD).headD 1 ≤ 9 := by decide +kernel
theorem arena_fixedD : (subTables fixedD).2 ≤ 1024 := by decide +kernel

/-- The fixed literal/length code builds, in every configuration (R103, R197). -/
theorem build_fixedLL (p : Params) : build p .ll fixedLL = .ok (tableOf .ll fixedLL) :=
  build_of_complete kraft_fixedLL used_fixedLL arena_fixedLL

/-- The fixed distance code builds, in every configuration (R103, R197). -/
theorem build_fixedD (p : Params) : build p .d fixedD = .ok (tableOf .d fixedD) :=
  build_of_complete kraft_fixedD used_fixedD arena_fixedD

/-- The lengths FIXED_INIT gives the two builds (R102, R197). -/
theorem lensFrom_fixedLens (s : State) (h : s.lens = fixedLens) :
    s.lensFrom 0 288 = fixedLL ∧ s.lensFrom 288 32 = fixedD := by
  have h1 : ((fixedLens.toList.drop 0).take 288).map BitVec.toNat = fixedLL := by decide +kernel
  have h2 : ((fixedLens.toList.drop 288).take 32).map BitVec.toNat = fixedD := by decide +kernel
  simp only [State.lensFrom, h]
  exact ⟨h1, h2⟩

/-- The fields of a packed entry (R150). -/
theorem toNat_packEntry {kind payload nx nb : Nat} (hk : kind < 256) (hp : payload < 65536) (hx : nx < 16) (hb : nb < 16) :
    (packEntry kind payload nx nb).toNat = kind * 2 ^ 24 + payload * 2 ^ 8 + nx * 2 ^ 4 + nb := by
  have h : ∀ k p x n : Nat, k < 256 → p < 65536 → x < 16 → n < 16 → k * 2 ^ 24 + p * 2 ^ 8 + x * 2 ^ 4 + n < 2 ^ 32 := by
    intro k p x n _ _ _ _
    omega
  simp only [packEntry, BitVec.toNat_ofNat]
  exact Nat.mod_eq_of_lt (h _ _ _ _ hk hp hx hb)

theorem entryPayload_pack {kind payload nx nb : Nat} (hk : kind < 256) (hp : payload < 65536) (hx : nx < 16) (hb : nb < 16) :
    (entryPayload (packEntry kind payload nx nb)).toNat = payload := by
  have h : ∀ k p x n : Nat, p < 65536 → x < 16 → n < 16 → (k * 2 ^ 24 + p * 2 ^ 8 + x * 2 ^ 4 + n) / 2 ^ 8 % 2 ^ 16 = p := by
    intro k p x n _ _ _
    omega
  rw [entryPayload, BitVec.extractLsb'_toNat, toNat_packEntry hk hp hx hb, Nat.shiftRight_eq_div_pow]
  exact h _ _ _ _ hp hx hb

theorem entryNX_pack {kind payload nx nb : Nat} (hk : kind < 256) (hp : payload < 65536) (hx : nx < 16) (hb : nb < 16) :
    (entryNX (packEntry kind payload nx nb)).toNat = nx := by
  have h : ∀ k p x n : Nat, x < 16 → n < 16 → (k * 2 ^ 24 + p * 2 ^ 8 + x * 2 ^ 4 + n) / 2 ^ 4 % 2 ^ 4 = x := by
    intro k p x n _ _
    omega
  rw [entryNX, BitVec.extractLsb'_toNat, toNat_packEntry hk hp hx hb, Nat.shiftRight_eq_div_pow]
  exact h _ _ _ _ hx hb

/-- The low field of any packed entry, in range or not. -/
theorem entryNB_pack {kind payload nx nb : Nat} (hb : nb < 16) : (entryNB (packEntry kind payload nx nb)).toNat = nb := by
  have h : ∀ k p x n : Nat, n < 16 → (k * 2 ^ 24 + p * 2 ^ 8 + x * 2 ^ 4 + n) % 2 ^ 32 / 2 ^ 0 % 2 ^ 4 = n := by
    intro k p x n _
    omega
  rw [entryNB, BitVec.extractLsb'_toNat, packEntry, BitVec.toNat_ofNat, Nat.shiftRight_eq_div_pow]
  exact h _ _ _ _ hb

theorem kind_byte_pack {kind payload nx nb : Nat} (hk : kind < 256) (hp : payload < 65536) (hx : nx < 16) (hb : nb < 16) :
    ((packEntry kind payload nx nb).extractLsb' 24 8).toNat = kind := by
  have h : ∀ k p x n : Nat, k < 256 → p < 65536 → x < 16 → n < 16 →
      (k * 2 ^ 24 + p * 2 ^ 8 + x * 2 ^ 4 + n) / 2 ^ 24 % 2 ^ 8 = k := by
    intro k p x n _ _ _ _
    omega
  rw [BitVec.extractLsb'_toNat, toNat_packEntry hk hp hx hb, Nat.shiftRight_eq_div_pow]
  exact h _ _ _ _ hk hp hx hb

/-- A slot of a built arena holds the entry R158 to R160 put there. -/
theorem readTable_tableOf (A : Alphabet) (lens : List Nat) {i : Nat} (h : i < 1024) :
    readTable (tableOf A lens) i = slotEntry A lens (subTables lens).1 i := by
  have hm : ((List.range 1024).map (slotEntry A lens (subTables lens).1))[i]? =
      some (slotEntry A lens (subTables lens).1 i) := by
    rw [List.getElem?_map, List.getElem?_range h]
    rfl
  simp only [readTable, tableOf, Vector.getElem?_mk, List.getElem?_toArray]
  rw [hm]
  rfl

/-- A built table is `tableOf` of its lengths (R152). -/
theorem eq_tableOf_of_build {p : Params} {A : Alphabet} {lens : List Nat} {t : Table} (h : build p A lens = .ok t) :
    t = tableOf A lens := by
  unfold build at h
  cases hk : kraftLoop lens (shortLengths ++ longLengths) 1 with
  | none => rw [hk] at h; cases h
  | some left =>
    rw [hk] at h
    dsimp only at h
    by_cases h1 : left ≠ 0 ∧ acceptsUnder p A lens = false
    · rw [if_pos h1] at h; cases h
    by_cases h2 : 9 < (usedLengths lens).headD 1
    · rw [if_neg h1, if_pos h2] at h; cases h
    by_cases h3 : 1024 < (subTables lens).2
    · rw [if_neg h1, if_neg h2, if_pos h3] at h; cases h
    · rw [if_neg h1, if_neg h2, if_neg h3] at h
      exact (Except.ok.inj h).symm

end Sys2Proof.Machine
end

