-- ==== Sys2Proof/Laws/Memory.lean ====
section
/-! SUPPORT. Laws of host memory: a read after a write, and the canonical form every write keeps. -/

namespace Sys2Proof.Machine

theorem Mem.read_eq_unlisted_of_lt {m : Mem} {lo a : Nat} (h : Mem.wfFrom lo m = true) (ha : a < lo) :
    Mem.read m a = Mem.unlisted := by
  induction m generalizing lo with
  | nil => rfl
  | cons c m ih =>
    obtain ⟨b, w⟩ := c
    simp only [Mem.wfFrom, Bool.and_eq_true, decide_eq_true_eq] at h
    simp only [Mem.read]
    rw [if_neg (by omega)]
    exact ih h.2 (by omega)

theorem Mem.wfFrom_mono {m : Mem} {lo lo' : Nat} (h : Mem.wfFrom lo m = true) (hle : lo' ≤ lo) :
    Mem.wfFrom lo' m = true := by
  cases m with
  | nil => rfl
  | cons c m =>
    obtain ⟨b, w⟩ := c
    simp only [Mem.wfFrom, Bool.and_eq_true, decide_eq_true_eq] at h ⊢
    exact ⟨⟨by omega, h.1.2⟩, h.2⟩

theorem Mem.wfFrom_put {m : Mem} {lo a : Nat} (v : Byte) (ha : lo ≤ a) (h : Mem.wfFrom (a + 1) m = true) :
    Mem.wfFrom lo (Mem.put a v m) = true := by
  by_cases hv : v = Mem.unlisted
  · simpa [Mem.put, hv] using Mem.wfFrom_mono h (by omega)
  · simp [Mem.put, hv, Mem.wfFrom, ha, h]

theorem Mem.wfFrom_write {m : Mem} {lo : Nat} (h : Mem.wfFrom lo m = true) {a : Nat} (ha : lo ≤ a) (v : Byte) :
    Mem.wfFrom lo (Mem.write m a v) = true := by
  induction m generalizing lo with
  | nil => exact Mem.wfFrom_put v ha rfl
  | cons c m ih =>
    obtain ⟨b, w⟩ := c
    simp only [Mem.wfFrom, Bool.and_eq_true, decide_eq_true_eq] at h
    simp only [Mem.write]
    split
    · refine Mem.wfFrom_put v ha ?_
      simp only [Mem.wfFrom, Bool.and_eq_true, decide_eq_true_eq]
      exact ⟨⟨by omega, h.1.2⟩, h.2⟩
    · split
      · subst_vars
        exact Mem.wfFrom_put v ha h.2
      · simp only [Mem.wfFrom, Bool.and_eq_true, decide_eq_true_eq]
        exact ⟨h.1, ih h.2 (by omega)⟩

/-- A write keeps the canonical form. -/
theorem Mem.wf_write {m : Mem} (h : m.wf = true) (a : Nat) (v : Byte) : (m.write a v).wf = true :=
  Mem.wfFrom_write h (Nat.zero_le a) v

theorem Mem.wf_writeBytes {m : Mem} (h : m.wf = true) (a : Nat) (vs : List Byte) : (m.writeBytes a vs).wf = true := by
  induction vs generalizing m a with
  | nil => exact h
  | cons v vs ih => exact ih (Mem.wf_write h a v) (a + 1)

theorem Mem.read_put {m : Mem} {a : Nat} (v : Byte) (h : Mem.wfFrom (a + 1) m = true) (c : Nat) :
    Mem.read (Mem.put a v m) c = if c = a then v else Mem.read m c := by
  by_cases hv : v = Mem.unlisted
  · by_cases hc : c = a
    · subst hc
      simp [Mem.put, hv, Mem.read_eq_unlisted_of_lt h]
    · simp [Mem.put, hv, hc]
  · simp [Mem.put, hv, Mem.read]

theorem Mem.read_write_from {m : Mem} {lo : Nat} (h : Mem.wfFrom lo m = true) (a : Nat) (v : Byte) (c : Nat) :
    Mem.read (Mem.write m a v) c = if c = a then v else Mem.read m c := by
  induction m generalizing lo with
  | nil => exact Mem.read_put v rfl c
  | cons x m ih =>
    obtain ⟨b, w⟩ := x
    simp only [Mem.wfFrom, Bool.and_eq_true, decide_eq_true_eq] at h
    simp only [Mem.write]
    split
    · refine Mem.read_put v ?_ c
      simp only [Mem.wfFrom, Bool.and_eq_true, decide_eq_true_eq]
      exact ⟨⟨by omega, h.1.2⟩, h.2⟩
    · split
      · subst_vars
        rw [Mem.read_put v h.2 c]
        simp only [Mem.read]
        split <;> simp_all
      · simp only [Mem.read, ih h.2]
        by_cases hcb : c = b
        · rw [if_pos hcb, if_neg (by omega), if_pos hcb]
        · rw [if_neg hcb, if_neg hcb]

/-- A read after a write: the byte written at its address, the old byte elsewhere. -/
theorem Mem.read_write {m : Mem} (h : m.wf = true) (a : Nat) (v : Byte) (c : Nat) :
    (m.write a v).read c = if c = a then v else m.read c :=
  Mem.read_write_from h a v c

/-- Without any canonical form: a write leaves every other address as it was. -/
theorem Mem.read_write_ne {m : Mem} {a : Nat} (v : Byte) {c : Nat} (hc : c ≠ a) : (m.write a v).read c = m.read c := by
  have put_ne : ∀ m : Mem, (Mem.put a v m).read c = m.read c := by
    intro m
    by_cases hv : v = Mem.unlisted <;> simp [Mem.put, hv, Mem.read, hc]
  induction m with
  | nil => exact put_ne []
  | cons x m ih =>
    obtain ⟨b, w⟩ := x
    simp only [Mem.write]
    split
    · exact put_ne _
    · split
      · subst_vars
        rw [put_ne]
        simp [Mem.read, hc]
      · simp only [Mem.read, ih]

end Sys2Proof.Machine
end

