-- ==== Sys2Proof/Laws/Ops.lean ====
section
/-! SUPPORT. What each shared operation can do, said once: the bit reader and the symbol decoder touch only the accumulator and the
input cursor; Emit and the copy touch only the output, the history and REM. -/

namespace Sys2Proof.Machine

/-! ### The accumulator -/

theorem accOk_refilled {s : State} (h : s.AccOk) (hn : s.nbits.toNat ≤ 24) : s.refilled.AccOk := by
  obtain ⟨hb, -⟩ := h
  have hnb : (s.nbits + 8).toNat = s.nbits.toNat + 8 := by
    rw [BitVec.toNat_add]
    simp
    omega
  refine ⟨?_, by rw [State.refilled_nbits, hnb]; omega⟩
  rw [State.refilled_nbits, State.refilled_bits, hnb, BitVec.toNat_or]
  refine Nat.or_lt_two_pow (lt_of_lt_of_le hb (Nat.pow_le_pow_right (by omega) (by omega))) ?_
  rw [BitVec.toNat_shiftLeft, Nat.shiftLeft_eq]
  refine lt_of_le_of_lt (Nat.mod_le _ _) ?_
  have h8 : ((s.mem.read s.port.srcPtr).setWidth 32).toNat < 2 ^ 8 := by
    rw [BitVec.toNat_setWidth]
    exact lt_of_le_of_lt (Nat.mod_le _ _) (s.mem.read s.port.srcPtr).isLt
  rw [Nat.add_comm, Nat.pow_add]
  exact Nat.mul_lt_mul_of_pos_right h8 (Nat.two_pow_pos _)

theorem nbits_refilled {s : State} (hn : s.nbits.toNat ≤ 24) : s.refilled.nbits.toNat = s.nbits.toNat + 8 := by
  rw [State.refilled_nbits, BitVec.toNat_add]
  simp
  omega

theorem nbits_consume {s : State} {n : Nat} (hn : n ≤ s.nbits.toNat) : (s.consume n).nbits.toNat = s.nbits.toNat - n := by
  have := s.nbits.isLt
  rw [State.consume_nbits, BitVec.toNat_sub]
  simp
  omega

theorem accOk_consume {s : State} {n : Nat} (h : s.AccOk) (hn : n ≤ s.nbits.toNat) : (s.consume n).AccOk := by
  refine ⟨?_, by rw [nbits_consume hn]; have := h.2; omega⟩
  rw [nbits_consume hn, State.consume_bits, BitVec.toNat_ushiftRight, Nat.shiftRight_eq_div_pow]
  refine Nat.div_lt_of_lt_mul ?_
  rw [← Nat.pow_add, show n + (s.nbits.toNat - n) = s.nbits.toNat by omega]
  exact h.1

/-! ### What a bit-reader operation leaves alone -/

/-- `t` is `s` but for the accumulator and an input cursor that did not move back. -/
structure BitFrame (s t : State) : Prop where
  same : t = { s with bits := t.bits, nbits := t.nbits, port := { s.port with srcPtr := t.port.srcPtr } }
  moved : s.port.srcPtr ≤ t.port.srcPtr
  inside : s.port.srcPtr ≤ s.port.srcEnd → t.port.srcPtr ≤ s.port.srcEnd
  acc : s.AccOk → t.AccOk

theorem BitFrame.refl (s : State) : BitFrame s s := ⟨rfl, Nat.le_refl _, id, id⟩

theorem BitFrame.trans {s t u : State} (h : BitFrame s t) (k : BitFrame t u) : BitFrame s u := by
  have hend : t.port.srcEnd = s.port.srcEnd := by rw [h.same]
  refine ⟨?_, Nat.le_trans h.moved k.moved, fun hs => ?_, fun hs => k.acc (h.acc hs)⟩
  · rw [k.same, h.same]
  · exact hend ▸ k.inside (hend.symm ▸ h.inside hs)

/-- How a bit-reader operation stops: input exhausted, a defensive check (`E_INTERNAL_*`), or an address that does not exist; the
accumulator holds what was read until then (R134). -/
inductive ReadStop (s : State) : Result → Prop where
  | exhausted (t : State) (h : BitFrame s t) (he : t.port.srcPtr = t.port.srcEnd) : ReadStop s (.next t.inputExhausted)
  | bitCount (t : State) (h : BitFrame s t) : ReadStop s (.next (t.raise .internalBitCount))
  | empty (t : State) (h : BitFrame s t) : ReadStop s (.next (t.raise .internalHuffmanState))
  | noAddress : ReadStop s (.fault .noSuchAddress)

theorem ReadStop.after {s t : State} {o : Result} (h : BitFrame s t) (k : ReadStop t o) : ReadStop s o := by
  cases k with
  | exhausted u hu he => exact .exhausted u (h.trans hu) he
  | bitCount u hu => exact .bitCount u (h.trans hu)
  | empty u hu => exact .empty u (h.trans hu)
  | noAddress => exact .noAddress

/-- `Refill` (R131), case by case. -/
theorem refill_cases (s : State) :
    (24 < s.nbits.toNat ∧ refill s = .stop (.next (s.raise .internalBitCount))) ∨
    (s.nbits.toNat ≤ 24 ∧ s.port.srcPtr = s.port.srcEnd ∧ refill s = .stop (.next s.inputExhausted)) ∨
    (s.nbits.toNat ≤ 24 ∧ s.port.srcPtr ≠ s.port.srcEnd ∧ s.inSpace s.port.srcPtr = true ∧ refill s = .val () s.refilled) ∨
    (s.nbits.toNat ≤ 24 ∧ s.port.srcPtr ≠ s.port.srcEnd ∧ s.inSpace s.port.srcPtr = false ∧
      refill s = .stop (.fault .noSuchAddress)) := by
  unfold refill
  by_cases h1 : 24 < s.nbits.toNat
  · simp [h1]
  by_cases h2 : s.port.srcPtr = s.port.srcEnd
  · simp [h2, Nat.not_lt.mp h1]
  cases h3 : s.inSpace s.port.srcPtr <;> simp [h1, h2, Nat.not_lt.mp h1]

theorem bitFrame_refilled {s : State} (hn : s.nbits.toNat ≤ 24) (hs : s.port.srcPtr ≠ s.port.srcEnd) : BitFrame s s.refilled :=
  ⟨rfl, Nat.le_succ _, fun h => by simp only [State.refilled_port]; omega, fun h => accOk_refilled h hn⟩

theorem bitFrame_consume {s : State} {n : Nat} (hn : n ≤ s.nbits.toNat) : BitFrame s (s.consume n) :=
  ⟨rfl, Nat.le_refl _, id, fun h => accOk_consume h hn⟩

/-- `Refill` reads one byte, or stops. -/
theorem refill_spec (s : State) :
    (∃ t, refill s = .val () t ∧ BitFrame s t ∧ t.nbits.toNat = s.nbits.toNat + 8) ∨
    (∃ o, refill s = .stop o ∧ ReadStop s o) := by
  rcases refill_cases s with ⟨_, h⟩ | ⟨_, he, h⟩ | ⟨hn, hs, _, h⟩ | ⟨_, _, _, h⟩
  · exact .inr ⟨_, h, .bitCount s (.refl s)⟩
  · exact .inr ⟨_, h, .exhausted s (.refl s) he⟩
  · exact .inl ⟨_, h, bitFrame_refilled hn hs, nbits_refilled hn⟩
  · exact .inr ⟨_, h, .noAddress⟩

theorem ensureLoop_spec (k n : Nat) (s : State) :
    (∃ t, ensureLoop k n s = .val () t ∧ BitFrame s t ∧ (n ≤ s.nbits.toNat + 8 * k → n ≤ t.nbits.toNat) ∧
      (t.nbits.toNat = s.nbits.toNat ∨ t.nbits.toNat < n + 8)) ∨
    (∃ o, ensureLoop k n s = .stop o ∧ ReadStop s o) := by
  induction k generalizing s with
  | zero => exact .inl ⟨s, rfl, .refl s, by omega, .inl rfl⟩
  | succ k ih =>
    by_cases hn : s.nbits.toNat < n
    · rcases refill_spec s with ⟨t, ht, hf, hb⟩ | ⟨o, ho, hs⟩
      · rcases ih t with ⟨u, hu, hfu, hle, hlt⟩ | ⟨o, ho, hs⟩
        · refine .inl ⟨u, by simp [ensureLoop, hn, ht, Res.bind, hu], hf.trans hfu, fun h => hle (by omega), ?_⟩
          rcases hlt with h | h <;> right <;> omega
        · exact .inr ⟨o, by simp [ensureLoop, hn, ht, Res.bind, ho], hs.after hf⟩
      · exact .inr ⟨o, by simp [ensureLoop, hn, ho, Res.bind], hs⟩
    · exact .inl ⟨s, by simp [ensureLoop, hn], .refl s, by omega, .inl rfl⟩

/-- `Ensure(n)` (R132): at least `n` bits held, or stopped. -/
theorem ensure_spec {n : Nat} (hn : n ≤ 32) (s : State) :
    (∃ t, ensure n s = .val () t ∧ BitFrame s t ∧ n ≤ t.nbits.toNat ∧
      (t.nbits.toNat = s.nbits.toNat ∨ t.nbits.toNat < n + 8)) ∨
    (∃ o, ensure n s = .stop o ∧ ReadStop s o) := by
  rcases ensureLoop_spec 4 n s with ⟨t, ht, hf, hle, hlt⟩ | h
  · exact .inl ⟨t, ht, hf, hle (by omega), hlt⟩
  · exact .inr h

/-- `Take(n)` (R133): the low `n` bits of what `Ensure(n)` made available, or stopped with nothing taken. -/
theorem take_spec {n : Nat} (hn : n ≤ 32) (s : State) :
    (∃ t, take n s = .val (t.bits &&& BitVec.ofNat 32 (2 ^ n - 1)) (t.consume n) ∧ ensure n s = .val () t ∧
      BitFrame s (t.consume n) ∧ n ≤ t.nbits.toNat) ∨
    (∃ o, take n s = .stop o ∧ ReadStop s o) := by
  rcases ensure_spec hn s with ⟨t, ht, hf, hle, -⟩ | ⟨o, ho, hs⟩
  · exact .inl ⟨t, by simp [take, ht, Res.bind], ht, hf.trans (bitFrame_consume hle), hle⟩
  · exact .inr ⟨o, by simp [take, ho, Res.bind], hs⟩

theorem decodeSymLoop_spec (k : Nat) (tab : Table) (s : State) :
    (∃ y t, decodeSymLoop k tab s = .val y t ∧ BitFrame s t ∧ entryKind y.entry ≠ .empty ∧
      ∃ u, BitFrame s u ∧ lookup tab u.bits = (y.entry, y.len) ∧ y.len ≤ u.nbits.toNat ∧ t = u.consume y.len ∧
        y.code = u.bits.toNat % 2 ^ y.len) ∨
    (∃ o, decodeSymLoop k tab s = .stop o ∧ ReadStop s o) := by
  induction k generalizing s with
  | zero => exact .inr ⟨_, rfl, .bitCount s (.refl s)⟩
  | succ k ih =>
    by_cases he : entryKind (lookup tab s.bits).1 = .empty
    · exact .inr ⟨_, by simp [decodeSymLoop, he], .empty s (.refl s)⟩
    · by_cases hL : (lookup tab s.bits).2 ≤ s.nbits.toNat
      · exact .inl ⟨⟨(lookup tab s.bits).1, (lookup tab s.bits).2, s.bits.toNat % 2 ^ (lookup tab s.bits).2⟩,
          s.consume (lookup tab s.bits).2, by simp [decodeSymLoop, he, hL], bitFrame_consume hL, he, s, .refl s, rfl, hL, rfl, rfl⟩
      · rcases refill_spec s with ⟨t, ht, hf, -⟩ | ⟨o, ho, hs⟩
        · rcases ih t with ⟨y, u, hu, hfu, hk, v, hv, hl, hle, hc, hcode⟩ | ⟨o, ho, hs⟩
          · exact .inl ⟨y, u, by simp [decodeSymLoop, he, hL, ht, Res.bind, hu], hf.trans hfu, hk, v, hf.trans hv, hl, hle, hc, hcode⟩
          · exact .inr ⟨o, by simp [decodeSymLoop, he, hL, ht, Res.bind, ho], hs.after hf⟩
        · exact .inr ⟨o, by simp [decodeSymLoop, he, hL, ho, Res.bind], hs⟩

/-- `DecodeSym` (R163): the entry that the held bits select, its bits consumed, or stopped with none consumed. -/
theorem decodeSym_spec (tab : Table) (s : State) :
    (∃ y t, decodeSym tab s = .val y t ∧ BitFrame s t ∧ entryKind y.entry ≠ .empty ∧
      ∃ u, BitFrame s u ∧ lookup tab u.bits = (y.entry, y.len) ∧ y.len ≤ u.nbits.toNat ∧ t = u.consume y.len ∧
        y.code = u.bits.toNat % 2 ^ y.len) ∨
    (∃ o, decodeSym tab s = .stop o ∧ ReadStop s o) :=
  decodeSymLoop_spec 4 tab s

/-! ### Align, Emit, the copy, ADD_HISTORY's loop -/

/-- `Align` (R192). -/
theorem align_of_small {s : State} {k : State → Result} (h : s.AccOk) (hn : s.nbits.toNat < 8) :
    align s k = k { s with bits := 0, nbits := 0 } := by
  have : s.bits >>> s.nbits.toNat = 0 := by
    apply BitVec.eq_of_toNat_eq
    rw [BitVec.toNat_ushiftRight, Nat.shiftRight_eq_div_pow, Nat.div_eq_of_lt h.1]
    rfl
  simp [align, this, Nat.not_le.mpr hn]

/-- `Align` answers its continuation on the cleared accumulator, or the internal error. -/
theorem align_cases (s : State) (k : State → Result) :
    align s k = k { s with bits := 0, nbits := 0 } ∨ align s k = .next (s.raise .internalBitCount) := by
  unfold align
  split
  · exact .inr rfl
  · exact .inl rfl

/-- `Emit` (R301): the byte out, or a fault. -/
theorem emit_cases (b : Byte) (s : State) :
    (s.inSpace s.port.dstPtr = true ∧ emit b s = .next (s.emitted b)) ∨
    (s.inSpace s.port.dstPtr = false ∧ emit b s = .fault .noSuchAddress) := by
  cases h : s.inSpace s.port.dstPtr <;> simp [emit, h]

/-- A property that ending the copy and copying one byte keep holds of whatever `COPY` answers next (R302). -/
theorem copyLoop_induct {P : State → Prop} {Q : State → Prop} (hend : ∀ s, P s → Q { s with fsm := .llSym })
    (hfull : ∀ s, P s → s.port.dstPtr = s.port.dstEnd → Q (s.suspend .shortWrite))
    (hstep : ∀ s, P s → s.port.dstPtr ≠ s.port.dstEnd → P s.copied) :
    ∀ n s t, P s → copyLoop n s = .next t → Q t := by
  intro n
  induction n with
  | zero =>
    intro s t hs h
    simp only [copyLoop, Host.Outcome.next.injEq] at h
    exact h ▸ hend s hs
  | succ n ih =>
    intro s t hs h
    rw [copyLoop] at h
    by_cases hd : s.port.dstPtr = s.port.dstEnd
    · rw [if_pos hd, Host.Outcome.next.injEq] at h
      exact h ▸ hfull s hs hd
    · rw [if_neg hd] at h
      split at h
      · exact ih _ t (hstep s hs hd) h
      · cases h

/-- `n` bytes copied. -/
def copiedTimes : Nat → State → State
  | 0, s => s
  | n + 1, s => copiedTimes n s.copied

/-- With room for all its bytes, `COPY` copies them all and returns to LL_SYM (R302). -/
theorem copyLoop_completes (n : Nat) (s : State) (hroom : s.port.dstPtr + n ≤ s.port.dstEnd)
    (hspace : s.port.dstEnd ≤ 2 ^ s.par.addrW) : copyLoop n s = .next { copiedTimes n s with fsm := .llSym } := by
  induction n generalizing s with
  | zero => rfl
  | succ n ih =>
    rw [copyLoop, if_neg (by omega), if_pos (by simp only [State.inSpace, decide_eq_true_eq]; omega)]
    exact ih s.copied (by simp only [State.copied_port]; omega) (by simpa using hspace)

/-- ADD_HISTORY's loop over existing addresses appends every byte (R305). -/
theorem addBytes_frame (n a : Nat) (s t : State) (h : addBytes n a s = .next t) : t = { s with win := t.win } := by
  induction n generalizing a s with
  | zero =>
    simp only [addBytes, Host.Outcome.next.injEq] at h
    subst h; rfl
  | succ n ih =>
    rw [addBytes] at h
    split at h
    · rw [ih _ _ h]; rfl
    · cases h

/-! ### Legal operands -/

/-- Two ranges are disjoint where no address lies in both (R41). -/
theorem disjoint_iff (a b c d : Nat) : disjoint a b c d = true ↔ ∀ x, a ≤ x → x < b → ¬ (c ≤ x ∧ x < d) := by
  simp only [disjoint, Bool.or_eq_true, decide_eq_true_eq]
  refine ⟨fun h x h1 h2 h3 => by omega, fun h => ?_⟩
  have := h (max a c)
  omega

/-- The ADD_HISTORY range is apart from the other two (R41). -/
theorem historyApart_iff (s : State) :
    s.historyApart = true ↔ ∀ a, s.InHistoryRange a → ¬ s.InSource a ∧ ¬ s.InOutput a := by
  simp only [State.historyApart, Bool.and_eq_true, disjoint_iff, State.InHistoryRange, State.InSource, State.InOutput]
  exact ⟨fun h a ha => ⟨h.1 a ha.1 ha.2, h.2 a ha.1 ha.2⟩,
    fun h => ⟨fun a h1 h2 => (h a ⟨h1, h2⟩).1, fun a h1 h2 => (h a ⟨h1, h2⟩).2⟩⟩

/-- What R41 asks of a DECODE. -/
theorem legalOperands_iff (s : State) :
    s.legalOperands = true ↔
      s.CursorsOk ∧ (∀ a, s.InSource a → ¬ s.InOutput a) ∧ ∀ a, s.InHistoryRange a → ¬ s.InSource a ∧ ¬ s.InOutput a := by
  rw [← historyApart_iff]
  simp only [State.legalOperands, Bool.and_eq_true, decide_eq_true_eq, disjoint_iff, State.CursorsOk, State.InSource, State.InOutput,
    and_assoc, and_imp]

/-! ### The window -/

theorem toNat_fillCount (h : BitVec 16) : (fillCount h).toNat = min (h.toNat + 1) 32768 := by
  simp only [fillCount, BitVec.toNat_ofNat]
  omega

/-- Appending keeps the two counters one index (R35). -/
theorem windowOk_append {s : State} (h : s.WindowOk) (b : Byte) :
    (s.win.append b).hfill.toNat ≤ 32768 ∧
      ((s.win.append b).hfill.toNat < 32768 → (s.win.append b).hidx.toNat = (s.win.append b).hfill.toNat) := by
  obtain ⟨-, h2⟩ := h
  simp only [Window.append, toNat_fillCount]
  refine ⟨by omega, fun hlt => ?_⟩
  have := h2 (by omega)
  rw [BitVec.toNat_add]
  simp
  omega

end Sys2Proof.Machine
end

