-- ==== Sys2Proof/Laws/PerInstr.lean ====
section
/-! SUPPORT. The opcode table row by row: every instruction is found again from its row's fields. -/

namespace Sys2Proof.Laws.TableRow

/-- A well-formed instruction is the one its row of the opcode table names (its header bits, its symbol and extra field, its
command value). -/
def Statement (i : Instr) : Prop := i.wf = true → i.shape.instr = some i

theorem ofNat_toNat_self {n : Nat} (x : BitVec n) : BitVec.ofNat n x.toNat = x := by simp

theorem cl_extra {s n : Nat} {f : Nat → Instr} {i : Instr} (h : clTable[s]? = some f) (hi : f n = i) :
    (Shape.cl s n).instr = some i := by
  simp [Shape.instr, clInstr, h, hi]

theorem ll_extra {s n : Nat} {f : Nat → Instr} {i : Instr} (h : llTable[s]? = some f) (hi : f n = i) :
    (Shape.ll s n).instr = some i := by
  simp [Shape.instr, llInstr, h, hi]

theorem dist_extra {s n : Nat} {f : Nat → Instr} {i : Instr} (h : distTable[s]? = some f) (hi : f n = i) :
    (Shape.dist s n).instr = some i := by
  simp [Shape.instr, distInstr, h, hi]

theorem blockStored (final : Bool) : Statement (.blockStored final) := by cases final <;> exact fun _ => rfl
theorem blockFixed (final : Bool) : Statement (.blockFixed final) := by cases final <;> exact fun _ => rfl
theorem blockDynamic (final : Bool) : Statement (.blockDynamic final) := by cases final <;> exact fun _ => rfl
theorem blockReserved (final : Bool) : Statement (.blockReserved final) := by cases final <;> exact fun _ => rfl
theorem alignPad (width : BitVec 3) (pad : BitVec 7) : Statement (.alignPad width pad) := fun _ => rfl
theorem storedLen (len : BitVec 16) (nlen : BitVec 16) : Statement (.storedLen len nlen) := fun _ => rfl
theorem storedByte (b : Byte) : Statement (.storedByte b) := fun _ => rfl
theorem dynHdr (hlit : BitVec 5) (hdist : BitVec 5) (hclen : BitVec 4) : Statement (.dynHdr hlit hdist hclen) := fun _ => rfl
theorem cll (l : BitVec 3) : Statement (.cll l) := fun _ => rfl
theorem clLen0 : Statement .clLen0 := fun _ => rfl
theorem clLen1 : Statement .clLen1 := fun _ => rfl
theorem clLen2 : Statement .clLen2 := fun _ => rfl
theorem clLen3 : Statement .clLen3 := fun _ => rfl
theorem clLen4 : Statement .clLen4 := fun _ => rfl
theorem clLen5 : Statement .clLen5 := fun _ => rfl
theorem clLen6 : Statement .clLen6 := fun _ => rfl
theorem clLen7 : Statement .clLen7 := fun _ => rfl
theorem clLen8 : Statement .clLen8 := fun _ => rfl
theorem clLen9 : Statement .clLen9 := fun _ => rfl
theorem clLen10 : Statement .clLen10 := fun _ => rfl
theorem clLen11 : Statement .clLen11 := fun _ => rfl
theorem clLen12 : Statement .clLen12 := fun _ => rfl
theorem clLen13 : Statement .clLen13 := fun _ => rfl
theorem clLen14 : Statement .clLen14 := fun _ => rfl
theorem clLen15 : Statement .clLen15 := fun _ => rfl
theorem clRepPrev (x : BitVec 2) : Statement (.clRepPrev x) := fun _ => cl_extra (f := fun x => .clRepPrev (.ofNat _ x)) rfl (congrArg Instr.clRepPrev (ofNat_toNat_self x))
theorem clRepZ3 (x : BitVec 3) : Statement (.clRepZ3 x) := fun _ => cl_extra (f := fun x => .clRepZ3 (.ofNat _ x)) rfl (congrArg Instr.clRepZ3 (ofNat_toNat_self x))
theorem clRepZ11 (x : BitVec 7) : Statement (.clRepZ11 x) := fun _ => cl_extra (f := fun x => .clRepZ11 (.ofNat _ x)) rfl (congrArg Instr.clRepZ11 (ofNat_toNat_self x))
theorem lit0 : Statement .lit0 := fun _ => rfl
theorem lit1 : Statement .lit1 := fun _ => rfl
theorem lit2 : Statement .lit2 := fun _ => rfl
theorem lit3 : Statement .lit3 := fun _ => rfl
theorem lit4 : Statement .lit4 := fun _ => rfl
theorem lit5 : Statement .lit5 := fun _ => rfl
theorem lit6 : Statement .lit6 := fun _ => rfl
theorem lit7 : Statement .lit7 := fun _ => rfl
theorem lit8 : Statement .lit8 := fun _ => rfl
theorem lit9 : Statement .lit9 := fun _ => rfl
theorem lit10 : Statement .lit10 := fun _ => rfl
theorem lit11 : Statement .lit11 := fun _ => rfl
theorem lit12 : Statement .lit12 := fun _ => rfl
theorem lit13 : Statement .lit13 := fun _ => rfl
theorem lit14 : Statement .lit14 := fun _ => rfl
theorem lit15 : Statement .lit15 := fun _ => rfl
theorem lit16 : Statement .lit16 := fun _ => rfl
theorem lit17 : Statement .lit17 := fun _ => rfl
theorem lit18 : Statement .lit18 := fun _ => rfl
theorem lit19 : Statement .lit19 := fun _ => rfl
theorem lit20 : Statement .lit20 := fun _ => rfl
theorem lit21 : Statement .lit21 := fun _ => rfl
theorem lit22 : Statement .lit22 := fun _ => rfl
theorem lit23 : Statement .lit23 := fun _ => rfl
theorem lit24 : Statement .lit24 := fun _ => rfl
theorem lit25 : Statement .lit25 := fun _ => rfl
theorem lit26 : Statement .lit26 := fun _ => rfl
theorem lit27 : Statement .lit27 := fun _ => rfl
theorem lit28 : Statement .lit28 := fun _ => rfl
theorem lit29 : Statement .lit29 := fun _ => rfl
theorem lit30 : Statement .lit30 := fun _ => rfl
theorem lit31 : Statement .lit31 := fun _ => rfl
theorem lit32 : Statement .lit32 := fun _ => rfl
theorem lit33 : Statement .lit33 := fun _ => rfl
theorem lit34 : Statement .lit34 := fun _ => rfl
theorem lit35 : Statement .lit35 := fun _ => rfl
theorem lit36 : Statement .lit36 := fun _ => rfl
theorem lit37 : Statement .lit37 := fun _ => rfl
theorem lit38 : Statement .lit38 := fun _ => rfl
theorem lit39 : Statement .lit39 := fun _ => rfl
theorem lit40 : Statement .lit40 := fun _ => rfl
theorem lit41 : Statement .lit41 := fun _ => rfl
theorem lit42 : Statement .lit42 := fun _ => rfl
theorem lit43 : Statement .lit43 := fun _ => rfl
theorem lit44 : Statement .lit44 := fun _ => rfl
theorem lit45 : Statement .lit45 := fun _ => rfl
theorem lit46 : Statement .lit46 := fun _ => rfl
theorem lit47 : Statement .lit47 := fun _ => rfl
theorem lit48 : Statement .lit48 := fun _ => rfl
theorem lit49 : Statement .lit49 := fun _ => rfl
theorem lit50 : Statement .lit50 := fun _ => rfl
theorem lit51 : Statement .lit51 := fun _ => rfl
theorem lit52 : Statement .lit52 := fun _ => rfl
theorem lit53 : Statement .lit53 := fun _ => rfl
theorem lit54 : Statement .lit54 := fun _ => rfl
theorem lit55 : Statement .lit55 := fun _ => rfl
theorem lit56 : Statement .lit56 := fun _ => rfl
theorem lit57 : Statement .lit57 := fun _ => rfl
theorem lit58 : Statement .lit58 := fun _ => rfl
theorem lit59 : Statement .lit59 := fun _ => rfl
theorem lit60 : Statement .lit60 := fun _ => rfl
theorem lit61 : Statement .lit61 := fun _ => rfl
theorem lit62 : Statement .lit62 := fun _ => rfl
theorem lit63 : Statement .lit63 := fun _ => rfl
theorem lit64 : Statement .lit64 := fun _ => rfl
theorem lit65 : Statement .lit65 := fun _ => rfl
theorem lit66 : Statement .lit66 := fun _ => rfl
theorem lit67 : Statement .lit67 := fun _ => rfl
theorem lit68 : Statement .lit68 := fun _ => rfl
theorem lit69 : Statement .lit69 := fun _ => rfl
theorem lit70 : Statement .lit70 := fun _ => rfl
theorem lit71 : Statement .lit71 := fun _ => rfl
theorem lit72 : Statement .lit72 := fun _ => rfl
theorem lit73 : Statement .lit73 := fun _ => rfl
theorem lit74 : Statement .lit74 := fun _ => rfl
theorem lit75 : Statement .lit75 := fun _ => rfl
theorem lit76 : Statement .lit76 := fun _ => rfl
theorem lit77 : Statement .lit77 := fun _ => rfl
theorem lit78 : Statement .lit78 := fun _ => rfl
theorem lit79 : Statement .lit79 := fun _ => rfl
theorem lit80 : Statement .lit80 := fun _ => rfl
theorem lit81 : Statement .lit81 := fun _ => rfl
theorem lit82 : Statement .lit82 := fun _ => rfl
theorem lit83 : Statement .lit83 := fun _ => rfl
theorem lit84 : Statement .lit84 := fun _ => rfl
theorem lit85 : Statement .lit85 := fun _ => rfl
theorem lit86 : Statement .lit86 := fun _ => rfl
theorem lit87 : Statement .lit87 := fun _ => rfl
theorem lit88 : Statement .lit88 := fun _ => rfl
theorem lit89 : Statement .lit89 := fun _ => rfl
theorem lit90 : Statement .lit90 := fun _ => rfl
theorem lit91 : Statement .lit91 := fun _ => rfl
theorem lit92 : Statement .lit92 := fun _ => rfl
theorem lit93 : Statement .lit93 := fun _ => rfl
theorem lit94 : Statement .lit94 := fun _ => rfl
theorem lit95 : Statement .lit95 := fun _ => rfl
theorem lit96 : Statement .lit96 := fun _ => rfl
theorem lit97 : Statement .lit97 := fun _ => rfl
theorem lit98 : Statement .lit98 := fun _ => rfl
theorem lit99 : Statement .lit99 := fun _ => rfl
theorem lit100 : Statement .lit100 := fun _ => rfl
theorem lit101 : Statement .lit101 := fun _ => rfl
theorem lit102 : Statement .lit102 := fun _ => rfl
theorem lit103 : Statement .lit103 := fun _ => rfl
theorem lit104 : Statement .lit104 := fun _ => rfl
theorem lit105 : Statement .lit105 := fun _ => rfl
theorem lit106 : Statement .lit106 := fun _ => rfl
theorem lit107 : Statement .lit107 := fun _ => rfl
theorem lit108 : Statement .lit108 := fun _ => rfl
theorem lit109 : Statement .lit109 := fun _ => rfl
theorem lit110 : Statement .lit110 := fun _ => rfl
theorem lit111 : Statement .lit111 := fun _ => rfl
theorem lit112 : Statement .lit112 := fun _ => rfl
theorem lit113 : Statement .lit113 := fun _ => rfl
theorem lit114 : Statement .lit114 := fun _ => rfl
theorem lit115 : Statement .lit115 := fun _ => rfl
theorem lit116 : Statement .lit116 := fun _ => rfl
theorem lit117 : Statement .lit117 := fun _ => rfl
theorem lit118 : Statement .lit118 := fun _ => rfl
theorem lit119 : Statement .lit119 := fun _ => rfl
theorem lit120 : Statement .lit120 := fun _ => rfl
theorem lit121 : Statement .lit121 := fun _ => rfl
theorem lit122 : Statement .lit122 := fun _ => rfl
theorem lit123 : Statement .lit123 := fun _ => rfl
theorem lit124 : Statement .lit124 := fun _ => rfl
theorem lit125 : Statement .lit125 := fun _ => rfl
theorem lit126 : Statement .lit126 := fun _ => rfl
theorem lit127 : Statement .lit127 := fun _ => rfl
theorem lit128 : Statement .lit128 := fun _ => rfl
theorem lit129 : Statement .lit129 := fun _ => rfl
theorem lit130 : Statement .lit130 := fun _ => rfl
theorem lit131 : Statement .lit131 := fun _ => rfl
theorem lit132 : Statement .lit132 := fun _ => rfl
theorem lit133 : Statement .lit133 := fun _ => rfl
theorem lit134 : Statement .lit134 := fun _ => rfl
theorem lit135 : Statement .lit135 := fun _ => rfl
theorem lit136 : Statement .lit136 := fun _ => rfl
theorem lit137 : Statement .lit137 := fun _ => rfl
theorem lit138 : Statement .lit138 := fun _ => rfl
theorem lit139 : Statement .lit139 := fun _ => rfl
theorem lit140 : Statement .lit140 := fun _ => rfl
theorem lit141 : Statement .lit141 := fun _ => rfl
theorem lit142 : Statement .lit142 := fun _ => rfl
theorem lit143 : Statement .lit143 := fun _ => rfl
theorem lit144 : Statement .lit144 := fun _ => rfl
theorem lit145 : Statement .lit145 := fun _ => rfl
theorem lit146 : Statement .lit146 := fun _ => rfl
theorem lit147 : Statement .lit147 := fun _ => rfl
theorem lit148 : Statement .lit148 := fun _ => rfl
theorem lit149 : Statement .lit149 := fun _ => rfl
theorem lit150 : Statement .lit150 := fun _ => rfl
theorem lit151 : Statement .lit151 := fun _ => rfl
theorem lit152 : Statement .lit152 := fun _ => rfl
theorem lit153 : Statement .lit153 := fun _ => rfl
theorem lit154 : Statement .lit154 := fun _ => rfl
theorem lit155 : Statement .lit155 := fun _ => rfl
theorem lit156 : Statement .lit156 := fun _ => rfl
theorem lit157 : Statement .lit157 := fun _ => rfl
theorem lit158 : Statement .lit158 := fun _ => rfl
theorem lit159 : Statement .lit159 := fun _ => rfl
theorem lit160 : Statement .lit160 := fun _ => rfl
theorem lit161 : Statement .lit161 := fun _ => rfl
theorem lit162 : Statement .lit162 := fun _ => rfl
theorem lit163 : Statement .lit163 := fun _ => rfl
theorem lit164 : Statement .lit164 := fun _ => rfl
theorem lit165 : Statement .lit165 := fun _ => rfl
theorem lit166 : Statement .lit166 := fun _ => rfl
theorem lit167 : Statement .lit167 := fun _ => rfl
theorem lit168 : Statement .lit168 := fun _ => rfl
theorem lit169 : Statement .lit169 := fun _ => rfl
theorem lit170 : Statement .lit170 := fun _ => rfl
theorem lit171 : Statement .lit171 := fun _ => rfl
theorem lit172 : Statement .lit172 := fun _ => rfl
theorem lit173 : Statement .lit173 := fun _ => rfl
theorem lit174 : Statement .lit174 := fun _ => rfl
theorem lit175 : Statement .lit175 := fun _ => rfl
theorem lit176 : Statement .lit176 := fun _ => rfl
theorem lit177 : Statement .lit177 := fun _ => rfl
theorem lit178 : Statement .lit178 := fun _ => rfl
theorem lit179 : Statement .lit179 := fun _ => rfl
theorem lit180 : Statement .lit180 := fun _ => rfl
theorem lit181 : Statement .lit181 := fun _ => rfl
theorem lit182 : Statement .lit182 := fun _ => rfl
theorem lit183 : Statement .lit183 := fun _ => rfl
theorem lit184 : Statement .lit184 := fun _ => rfl
theorem lit185 : Statement .lit185 := fun _ => rfl
theorem lit186 : Statement .lit186 := fun _ => rfl
theorem lit187 : Statement .lit187 := fun _ => rfl
theorem lit188 : Statement .lit188 := fun _ => rfl
theorem lit189 : Statement .lit189 := fun _ => rfl
theorem lit190 : Statement .lit190 := fun _ => rfl
theorem lit191 : Statement .lit191 := fun _ => rfl
theorem lit192 : Statement .lit192 := fun _ => rfl
theorem lit193 : Statement .lit193 := fun _ => rfl
theorem lit194 : Statement .lit194 := fun _ => rfl
theorem lit195 : Statement .lit195 := fun _ => rfl
theorem lit196 : Statement .lit196 := fun _ => rfl
theorem lit197 : Statement .lit197 := fun _ => rfl
theorem lit198 : Statement .lit198 := fun _ => rfl
theorem lit199 : Statement .lit199 := fun _ => rfl
theorem lit200 : Statement .lit200 := fun _ => rfl
theorem lit201 : Statement .lit201 := fun _ => rfl
theorem lit202 : Statement .lit202 := fun _ => rfl
theorem lit203 : Statement .lit203 := fun _ => rfl
theorem lit204 : Statement .lit204 := fun _ => rfl
theorem lit205 : Statement .lit205 := fun _ => rfl
theorem lit206 : Statement .lit206 := fun _ => rfl
theorem lit207 : Statement .lit207 := fun _ => rfl
theorem lit208 : Statement .lit208 := fun _ => rfl
theorem lit209 : Statement .lit209 := fun _ => rfl
theorem lit210 : Statement .lit210 := fun _ => rfl
theorem lit211 : Statement .lit211 := fun _ => rfl
theorem lit212 : Statement .lit212 := fun _ => rfl
theorem lit213 : Statement .lit213 := fun _ => rfl
theorem lit214 : Statement .lit214 := fun _ => rfl
theorem lit215 : Statement .lit215 := fun _ => rfl
theorem lit216 : Statement .lit216 := fun _ => rfl
theorem lit217 : Statement .lit217 := fun _ => rfl
theorem lit218 : Statement .lit218 := fun _ => rfl
theorem lit219 : Statement .lit219 := fun _ => rfl
theorem lit220 : Statement .lit220 := fun _ => rfl
theorem lit221 : Statement .lit221 := fun _ => rfl
theorem lit222 : Statement .lit222 := fun _ => rfl
theorem lit223 : Statement .lit223 := fun _ => rfl
theorem lit224 : Statement .lit224 := fun _ => rfl
theorem lit225 : Statement .lit225 := fun _ => rfl
theorem lit226 : Statement .lit226 := fun _ => rfl
theorem lit227 : Statement .lit227 := fun _ => rfl
theorem lit228 : Statement .lit228 := fun _ => rfl
theorem lit229 : Statement .lit229 := fun _ => rfl
theorem lit230 : Statement .lit230 := fun _ => rfl
theorem lit231 : Statement .lit231 := fun _ => rfl
theorem lit232 : Statement .lit232 := fun _ => rfl
theorem lit233 : Statement .lit233 := fun _ => rfl
theorem lit234 : Statement .lit234 := fun _ => rfl
theorem lit235 : Statement .lit235 := fun _ => rfl
theorem lit236 : Statement .lit236 := fun _ => rfl
theorem lit237 : Statement .lit237 := fun _ => rfl
theorem lit238 : Statement .lit238 := fun _ => rfl
theorem lit239 : Statement .lit239 := fun _ => rfl
theorem lit240 : Statement .lit240 := fun _ => rfl
theorem lit241 : Statement .lit241 := fun _ => rfl
theorem lit242 : Statement .lit242 := fun _ => rfl
theorem lit243 : Statement .lit243 := fun _ => rfl
theorem lit244 : Statement .lit244 := fun _ => rfl
theorem lit245 : Statement .lit245 := fun _ => rfl
theorem lit246 : Statement .lit246 := fun _ => rfl
theorem lit247 : Statement .lit247 := fun _ => rfl
theorem lit248 : Statement .lit248 := fun _ => rfl
theorem lit249 : Statement .lit249 := fun _ => rfl
theorem lit250 : Statement .lit250 := fun _ => rfl
theorem lit251 : Statement .lit251 := fun _ => rfl
theorem lit252 : Statement .lit252 := fun _ => rfl
theorem lit253 : Statement .lit253 := fun _ => rfl
theorem lit254 : Statement .lit254 := fun _ => rfl
theorem lit255 : Statement .lit255 := fun _ => rfl
theorem eob : Statement .eob := fun _ => rfl
theorem len257 : Statement .len257 := fun _ => rfl
theorem len258 : Statement .len258 := fun _ => rfl
theorem len259 : Statement .len259 := fun _ => rfl
theorem len260 : Statement .len260 := fun _ => rfl
theorem len261 : Statement .len261 := fun _ => rfl
theorem len262 : Statement .len262 := fun _ => rfl
theorem len263 : Statement .len263 := fun _ => rfl
theorem len264 : Statement .len264 := fun _ => rfl
theorem len265 (x : BitVec 1) : Statement (.len265 x) := fun _ => ll_extra (f := fun x => .len265 (.ofNat _ x)) rfl (congrArg Instr.len265 (ofNat_toNat_self x))
theorem len266 (x : BitVec 1) : Statement (.len266 x) := fun _ => ll_extra (f := fun x => .len266 (.ofNat _ x)) rfl (congrArg Instr.len266 (ofNat_toNat_self x))
theorem len267 (x : BitVec 1) : Statement (.len267 x) := fun _ => ll_extra (f := fun x => .len267 (.ofNat _ x)) rfl (congrArg Instr.len267 (ofNat_toNat_self x))
theorem len268 (x : BitVec 1) : Statement (.len268 x) := fun _ => ll_extra (f := fun x => .len268 (.ofNat _ x)) rfl (congrArg Instr.len268 (ofNat_toNat_self x))
theorem len269 (x : BitVec 2) : Statement (.len269 x) := fun _ => ll_extra (f := fun x => .len269 (.ofNat _ x)) rfl (congrArg Instr.len269 (ofNat_toNat_self x))
theorem len270 (x : BitVec 2) : Statement (.len270 x) := fun _ => ll_extra (f := fun x => .len270 (.ofNat _ x)) rfl (congrArg Instr.len270 (ofNat_toNat_self x))
theorem len271 (x : BitVec 2) : Statement (.len271 x) := fun _ => ll_extra (f := fun x => .len271 (.ofNat _ x)) rfl (congrArg Instr.len271 (ofNat_toNat_self x))
theorem len272 (x : BitVec 2) : Statement (.len272 x) := fun _ => ll_extra (f := fun x => .len272 (.ofNat _ x)) rfl (congrArg Instr.len272 (ofNat_toNat_self x))
theorem len273 (x : BitVec 3) : Statement (.len273 x) := fun _ => ll_extra (f := fun x => .len273 (.ofNat _ x)) rfl (congrArg Instr.len273 (ofNat_toNat_self x))
theorem len274 (x : BitVec 3) : Statement (.len274 x) := fun _ => ll_extra (f := fun x => .len274 (.ofNat _ x)) rfl (congrArg Instr.len274 (ofNat_toNat_self x))
theorem len275 (x : BitVec 3) : Statement (.len275 x) := fun _ => ll_extra (f := fun x => .len275 (.ofNat _ x)) rfl (congrArg Instr.len275 (ofNat_toNat_self x))
theorem len276 (x : BitVec 3) : Statement (.len276 x) := fun _ => ll_extra (f := fun x => .len276 (.ofNat _ x)) rfl (congrArg Instr.len276 (ofNat_toNat_self x))
theorem len277 (x : BitVec 4) : Statement (.len277 x) := fun _ => ll_extra (f := fun x => .len277 (.ofNat _ x)) rfl (congrArg Instr.len277 (ofNat_toNat_self x))
theorem len278 (x : BitVec 4) : Statement (.len278 x) := fun _ => ll_extra (f := fun x => .len278 (.ofNat _ x)) rfl (congrArg Instr.len278 (ofNat_toNat_self x))
theorem len279 (x : BitVec 4) : Statement (.len279 x) := fun _ => ll_extra (f := fun x => .len279 (.ofNat _ x)) rfl (congrArg Instr.len279 (ofNat_toNat_self x))
theorem len280 (x : BitVec 4) : Statement (.len280 x) := fun _ => ll_extra (f := fun x => .len280 (.ofNat _ x)) rfl (congrArg Instr.len280 (ofNat_toNat_self x))
theorem len281 (x : BitVec 5) : Statement (.len281 x) := fun _ => ll_extra (f := fun x => .len281 (.ofNat _ x)) rfl (congrArg Instr.len281 (ofNat_toNat_self x))
theorem len282 (x : BitVec 5) : Statement (.len282 x) := fun _ => ll_extra (f := fun x => .len282 (.ofNat _ x)) rfl (congrArg Instr.len282 (ofNat_toNat_self x))
theorem len283 (x : BitVec 5) : Statement (.len283 x) := fun _ => ll_extra (f := fun x => .len283 (.ofNat _ x)) rfl (congrArg Instr.len283 (ofNat_toNat_self x))
theorem len284 (x : BitVec 5) : Statement (.len284 x) := fun _ => ll_extra (f := fun x => .len284 (.ofNat _ x)) rfl (congrArg Instr.len284 (ofNat_toNat_self x))
theorem len285 : Statement .len285 := fun _ => rfl
theorem llInvalid286 : Statement .llInvalid286 := fun _ => rfl
theorem llInvalid287 : Statement .llInvalid287 := fun _ => rfl
theorem dist0 : Statement .dist0 := fun _ => rfl
theorem dist1 : Statement .dist1 := fun _ => rfl
theorem dist2 : Statement .dist2 := fun _ => rfl
theorem dist3 : Statement .dist3 := fun _ => rfl
theorem dist4 (x : BitVec 1) : Statement (.dist4 x) := fun _ => dist_extra (f := fun x => .dist4 (.ofNat _ x)) rfl (congrArg Instr.dist4 (ofNat_toNat_self x))
theorem dist5 (x : BitVec 1) : Statement (.dist5 x) := fun _ => dist_extra (f := fun x => .dist5 (.ofNat _ x)) rfl (congrArg Instr.dist5 (ofNat_toNat_self x))
theorem dist6 (x : BitVec 2) : Statement (.dist6 x) := fun _ => dist_extra (f := fun x => .dist6 (.ofNat _ x)) rfl (congrArg Instr.dist6 (ofNat_toNat_self x))
theorem dist7 (x : BitVec 2) : Statement (.dist7 x) := fun _ => dist_extra (f := fun x => .dist7 (.ofNat _ x)) rfl (congrArg Instr.dist7 (ofNat_toNat_self x))
theorem dist8 (x : BitVec 3) : Statement (.dist8 x) := fun _ => dist_extra (f := fun x => .dist8 (.ofNat _ x)) rfl (congrArg Instr.dist8 (ofNat_toNat_self x))
theorem dist9 (x : BitVec 3) : Statement (.dist9 x) := fun _ => dist_extra (f := fun x => .dist9 (.ofNat _ x)) rfl (congrArg Instr.dist9 (ofNat_toNat_self x))
theorem dist10 (x : BitVec 4) : Statement (.dist10 x) := fun _ => dist_extra (f := fun x => .dist10 (.ofNat _ x)) rfl (congrArg Instr.dist10 (ofNat_toNat_self x))
theorem dist11 (x : BitVec 4) : Statement (.dist11 x) := fun _ => dist_extra (f := fun x => .dist11 (.ofNat _ x)) rfl (congrArg Instr.dist11 (ofNat_toNat_self x))
theorem dist12 (x : BitVec 5) : Statement (.dist12 x) := fun _ => dist_extra (f := fun x => .dist12 (.ofNat _ x)) rfl (congrArg Instr.dist12 (ofNat_toNat_self x))
theorem dist13 (x : BitVec 5) : Statement (.dist13 x) := fun _ => dist_extra (f := fun x => .dist13 (.ofNat _ x)) rfl (congrArg Instr.dist13 (ofNat_toNat_self x))
theorem dist14 (x : BitVec 6) : Statement (.dist14 x) := fun _ => dist_extra (f := fun x => .dist14 (.ofNat _ x)) rfl (congrArg Instr.dist14 (ofNat_toNat_self x))
theorem dist15 (x : BitVec 6) : Statement (.dist15 x) := fun _ => dist_extra (f := fun x => .dist15 (.ofNat _ x)) rfl (congrArg Instr.dist15 (ofNat_toNat_self x))
theorem dist16 (x : BitVec 7) : Statement (.dist16 x) := fun _ => dist_extra (f := fun x => .dist16 (.ofNat _ x)) rfl (congrArg Instr.dist16 (ofNat_toNat_self x))
theorem dist17 (x : BitVec 7) : Statement (.dist17 x) := fun _ => dist_extra (f := fun x => .dist17 (.ofNat _ x)) rfl (congrArg Instr.dist17 (ofNat_toNat_self x))
theorem dist18 (x : BitVec 8) : Statement (.dist18 x) := fun _ => dist_extra (f := fun x => .dist18 (.ofNat _ x)) rfl (congrArg Instr.dist18 (ofNat_toNat_self x))
theorem dist19 (x : BitVec 8) : Statement (.dist19 x) := fun _ => dist_extra (f := fun x => .dist19 (.ofNat _ x)) rfl (congrArg Instr.dist19 (ofNat_toNat_self x))
theorem dist20 (x : BitVec 9) : Statement (.dist20 x) := fun _ => dist_extra (f := fun x => .dist20 (.ofNat _ x)) rfl (congrArg Instr.dist20 (ofNat_toNat_self x))
theorem dist21 (x : BitVec 9) : Statement (.dist21 x) := fun _ => dist_extra (f := fun x => .dist21 (.ofNat _ x)) rfl (congrArg Instr.dist21 (ofNat_toNat_self x))
theorem dist22 (x : BitVec 10) : Statement (.dist22 x) := fun _ => dist_extra (f := fun x => .dist22 (.ofNat _ x)) rfl (congrArg Instr.dist22 (ofNat_toNat_self x))
theorem dist23 (x : BitVec 10) : Statement (.dist23 x) := fun _ => dist_extra (f := fun x => .dist23 (.ofNat _ x)) rfl (congrArg Instr.dist23 (ofNat_toNat_self x))
theorem dist24 (x : BitVec 11) : Statement (.dist24 x) := fun _ => dist_extra (f := fun x => .dist24 (.ofNat _ x)) rfl (congrArg Instr.dist24 (ofNat_toNat_self x))
theorem dist25 (x : BitVec 11) : Statement (.dist25 x) := fun _ => dist_extra (f := fun x => .dist25 (.ofNat _ x)) rfl (congrArg Instr.dist25 (ofNat_toNat_self x))
theorem dist26 (x : BitVec 12) : Statement (.dist26 x) := fun _ => dist_extra (f := fun x => .dist26 (.ofNat _ x)) rfl (congrArg Instr.dist26 (ofNat_toNat_self x))
theorem dist27 (x : BitVec 12) : Statement (.dist27 x) := fun _ => dist_extra (f := fun x => .dist27 (.ofNat _ x)) rfl (congrArg Instr.dist27 (ofNat_toNat_self x))
theorem dist28 (x : BitVec 13) : Statement (.dist28 x) := fun _ => dist_extra (f := fun x => .dist28 (.ofNat _ x)) rfl (congrArg Instr.dist28 (ofNat_toNat_self x))
theorem dist29 (x : BitVec 13) : Statement (.dist29 x) := fun _ => dist_extra (f := fun x => .dist29 (.ofNat _ x)) rfl (congrArg Instr.dist29 (ofNat_toNat_self x))
theorem distInvalid30 : Statement .distInvalid30 := fun _ => rfl
theorem distInvalid31 : Statement .distInvalid31 := fun _ => rfl
theorem reset : Statement .reset := fun _ => rfl
theorem decode : Statement .decode := fun _ => rfl
theorem addHistory : Statement .addHistory := fun _ => rfl
theorem workbufLen : Statement .workbufLen := fun _ => rfl

end Sys2Proof.Laws.TableRow
end

