-- ==== Sys2Proof/Tests/Slice0.lean ====
section
/-! SUPPORT. The model's own tests: each expected value is worked out from spec/ and its rule is named. After them, one witness per
obligation with hypotheses: a concrete state and operands that meet all of them. -/

namespace Sys2Proof.Tests

open Sys2Proof Sys2Proof.Machine

-- One theorem at a time: each waits for the kernel, and a thread per waiting theorem would use up the memory.
set_option Elab.async false

/-! ### Helpers -/

/-- A configuration with every parameter written out. -/
def par0 : Params :=
  { closedInput := .suspend, emptyDist := .reject, fast := false, fastMinSrc := 6, fastMinDst := 258, addrW := 32, workbuf := 0 }

/-- The engine after reset. -/
def st0 : State := State.resetWith par0

/-- A DECODE under way in state `f`, with no input and no room. -/
def dec (f : Fsm) : State := { st0 with busy := true, decoding := true, fsm := f, port := { st0.port with cmd := 1 } }

/-- A command `c` just written. -/
def cmd (c : BitVec 2) : State := { st0 with busy := true, port := { st0.port with cmd := c } }

/-- `s` with the bytes at address 16 as its input. -/
def giving (bs : List Byte) (s : State) : State :=
  { s with mem := Mem.writeBytes [] 16 bs, port := { s.port with srcPtr := 16, srcEnd := 16 + bs.length } }

/-- `s` with room for `n` bytes at address 64. -/
def room (n : Nat) (s : State) : State := { s with port := { s.port with dstPtr := 64, dstEnd := 64 + n } }

/-- `s` with `n` bits of value `v` held. -/
def holding (v : Acc) (n : BitVec 6) (s : State) : State := { s with bits := v, nbits := n }

/-- `s` with the fixed tables (R197). -/
def fixedTabs (s : State) : State := { s with tab0 := tableOf .ll fixedLL, tab1 := tableOf .d fixedD }

/-- `s` with these bytes appended to its history. -/
def history (bs : List Byte) (s : State) : State := { s with win := bs.foldl Window.append s.win }

/-- The answer is a next state with property `P`. -/
def nextAnd (o : Result) (P : State → Bool) : Bool :=
  match o with
  | .next t => P t
  | .fault _ => false
  | .refused _ => false

theorem exists_next {o : Result} {P : State → Bool} (h : nextAnd o P = true) : ∃ t, o = .next t ∧ P t = true := by
  cases o with
  | next t => exact ⟨t, rfl, h⟩
  | fault f => cases h
  | refused r => cases h

/-- The read gives a value and a state with property `P`. -/
def valAnd {α : Type} (r : Res α) (P : α → State → Bool) : Bool :=
  match r with
  | .val a t => P a t
  | .stop _ => false

theorem exists_val {α : Type} {r : Res α} {P : α → State → Bool} (h : valAnd r P = true) : ∃ a t, r = .val a t ∧ P a t = true := by
  cases r with
  | val a t => exact ⟨a, t, rfl, h⟩
  | stop o => cases h

/-- The read stops with a next state with property `P`. -/
def stopAnd {α : Type} (r : Res α) (P : State → Bool) : Bool :=
  match r with
  | .val _ _ => false
  | .stop o => nextAnd o P

/-- A code of `L` bits, written first bit leftmost as in R103 and R199, as it stands in the accumulator (R66). -/
def sent (L c : Nat) : Nat := (List.range L).foldl (fun v i => v + c / 2 ^ (L - 1 - i) % 2 * 2 ^ i) 0

/-- What a slot decodes the bits `w` to: the fields of its opcode-table row, and its length. -/
def fieldsOf (slot : Slot) (w : Nat) : Option (Shape × Nat) :=
  match decode slot (placeTable slot) (BitVec.ofNat 32 w) with
  | .ok (i, n) => some (i.shape, n)
  | .error _ => none

/-! ### Well-formedness: the one check there is -/

theorem test_wf_pad_ok : WellFormed (.alignPad 5 0x1F) := by decide
theorem test_wf_pad_too_wide : ¬ WellFormed (.alignPad 5 0x20) := by decide
theorem test_wf_empty_pad : ¬ WellFormed (.alignPad 0 1) := by decide

/-! ### Decoding, by words written out from the spec's encodings -/

/-- R92, R191: the eight header values. -/
theorem test_decode_headers :
    (List.range 8).map (fieldsOf .header) =
      [some (.header 0 false, 3), some (.header 0 true, 3), some (.header 1 false, 3), some (.header 1 true, 3),
        some (.header 2 false, 3), some (.header 2 true, 3), some (.header 3 false, 3), some (.header 3 true, 3)] := by
  decide +kernel

/-- R192: the pad of header byte `F9` is five 1 bits. -/
theorem test_decode_pad : fieldsOf (.pad 5) 0x1F = some (.pad 5 0x1F, 5) := by decide +kernel

/-- R193: bytes `03 00 FC FF`. -/
theorem test_decode_storedLen : fieldsOf .storedLen 0xFFFC0003 = some (.storedLen 3 0xFFFC, 32) := by decide +kernel

/-- R195: a stored byte is its eight bits. -/
theorem test_decode_storedByte : fieldsOf .storedByte 0x161 = some (.storedByte 0x61, 8) := by decide +kernel

/-- R221: HLIT = 257, HDIST = 1, HCLEN = 18 is the field `3800`; R94's fields are in this order. -/
theorem test_decode_dynHdr :
    fieldsOf .dynHdr 0x3800 = some (.dynHdr 0 0 14, 14) ∧ fieldsOf .dynHdr 0x07DD = some (.dynHdr 29 30 1, 14) := by
  decide +kernel

/-- R95: three bits, least significant first. -/
theorem test_decode_cll : fieldsOf .cll 0b110 = some (.cll 6, 3) := by decide +kernel

/-- R96, R157: under the code of lengths 4 (symbols 0 to 12) and 5 (13 to 18), symbol `n` is `n`, or `11010` on; then its extra
bits. -/
theorem test_decode_cl :
    ((List.range 13).all fun n => fieldsOf .cl (sent 4 n) = some (.cl n 0, 4)) = true ∧
    ((List.range 3).all fun k => fieldsOf .cl (sent 5 (26 + k)) = some (.cl (13 + k) 0, 5)) = true ∧
    fieldsOf .cl (sent 5 29 + 2 ^ 5 * 3) = some (.cl 16 3, 7) ∧
    fieldsOf .cl (sent 5 30 + 2 ^ 5 * 5) = some (.cl 17 5, 8) ∧
    fieldsOf .cl (sent 5 31 + 2 ^ 5 * 127) = some (.cl 18 127, 12) := by
  decide +kernel

/-- R103: the fixed codes of the literals 0 to 143. -/
theorem test_decode_lit_low :
    ((List.range 144).all fun n => fieldsOf .ll (sent 8 (0b00110000 + n)) = some (.ll n 0, 8)) = true := by decide +kernel

/-- R103: the fixed codes of the literals 144 to 255. -/
theorem test_decode_lit_high :
    ((List.range 112).all fun k => fieldsOf .ll (sent 9 (0b110010000 + k)) = some (.ll (144 + k) 0, 9)) = true := by
  decide +kernel

/-- R103, R104: the fixed codes of the end of block and the lengths, with extra fields of 0 and of all ones. -/
theorem test_decode_lengths :
    fieldsOf .ll (sent 7 0) = some (.ll 256 0, 7) ∧
    ([(1, 0), (2, 0), (3, 0), (4, 0), (5, 0), (6, 0), (7, 0), (8, 0), (9, 1), (10, 1), (11, 1), (12, 1),
        (13, 2), (14, 2), (15, 2), (16, 2), (17, 3), (18, 3), (19, 3), (20, 3), (21, 4), (22, 4), (23, 4)].all
      fun p => fieldsOf .ll (sent 7 p.1) = some (.ll (256 + p.1) 0, 7 + p.2) &&
        fieldsOf .ll (sent 7 p.1 + 2 ^ 7 * (2 ^ p.2 - 1)) = some (.ll (256 + p.1) (2 ^ p.2 - 1), 7 + p.2)) = true ∧
    ([(0, 4), (1, 5), (2, 5), (3, 5), (4, 5), (5, 0)].all
      fun p => fieldsOf .ll (sent 8 (0b11000000 + p.1)) = some (.ll (280 + p.1) 0, 8 + p.2) &&
        fieldsOf .ll (sent 8 (0b11000000 + p.1) + 2 ^ 8 * (2 ^ p.2 - 1)) =
          some (.ll (280 + p.1) (2 ^ p.2 - 1), 8 + p.2)) = true ∧
    fieldsOf .ll (sent 8 0b11000110) = some (.ll 286 0, 8) ∧ fieldsOf .ll (sent 8 0b11000111) = some (.ll 287 0, 8) := by
  decide +kernel

/-- R103, R105: the fixed codes of the distances, with extra fields of 0 and of all ones. -/
theorem test_decode_distances :
    ([0, 0, 0, 0, 1, 1, 2, 2, 3, 3, 4, 4, 5, 5, 6, 6, 7, 7, 8, 8, 9, 9, 10, 10, 11, 11, 12, 12, 13, 13].zipIdx.all
      fun p => fieldsOf .dist (sent 5 p.2) = some (.dist p.2 0, 5 + p.1) &&
        fieldsOf .dist (sent 5 p.2 + 2 ^ 5 * (2 ^ p.1 - 1)) = some (.dist p.2 (2 ^ p.1 - 1), 5 + p.1)) = true ∧
    fieldsOf .dist (sent 5 30) = some (.dist 30 0, 5) ∧ fieldsOf .dist (sent 5 31) = some (.dist 31 0, 5) := by
  decide +kernel

/-- R109: the four commands. -/
theorem test_decode_commands :
    decodeCommand 0 = .reset ∧ decodeCommand 1 = .decode ∧ decodeCommand 2 = .addHistory ∧ decodeCommand 3 = .workbufLen := by
  decide

/-- A field that begins with no code: the degenerate distance table's bit 1 (R155, R160). -/
theorem test_decode_no_code : (decode .dist (tableOf .d [1]) 1 matches .error .noCode) = true := by decide +kernel

/-! ### The builder -/

/-- R152: the entries of `Build(CL, 0, [1,2,3,3])`. -/
theorem test_build_example :
    (List.range 8).map (readTable (tableOf .cl [1, 2, 3, 3])) =
      [0x80000001, 0x80000102, 0x80000001, 0x80000203, 0x80000001, 0x80000102, 0x80000001, 0x80000303] := by
  decide +kernel

/-- R199: entries of the fixed tables. -/
theorem test_fixed_entries :
    [0x00C, 0x089, 0x0FD, 0x013, 0x1FF, 0x000, 0x040, 0x074, 0x003, 0x0A3, 0x063, 0x0E3].map
        (readTable (tableOf .ll fixedLL)) =
      [0x80000008, 0x80006108, 0x80008F08, 0x80009009, 0x8000FF09, 0x20000007, 0x40000307, 0x40006347, 0x40007348,
        0x40010208, 0x08000008, 0x08000008] ∧
    [0x000, 0x018, 0x004, 0x017, 0x00F, 0x01F].map (readTable (tableOf .d fixedD)) =
      [0x40000105, 0x40000405, 0x40000515, 0x406001D5, 0x08000005, 0x08000005] := by
  decide +kernel

/-- R103: the code of every fixed symbol. -/
theorem test_fixed_codes :
    ((List.range 288).all fun n => codeOf fixedLL n =
      if n < 144 then 0b00110000 + n else if n < 256 then 0b110010000 + (n - 144)
      else if n < 280 then n - 256 else 0b11000000 + (n - 280)) = true ∧
    ((List.range 32).all fun n => codeOf fixedD n = n) = true := by
  decide +kernel

/-- R154, R155: over-subscribed, under-subscribed, and the one accepted distance code. -/
theorem test_build_errors :
    (build par0 .cl [1, 1, 1] matches .error .over) = true ∧ (build par0 .cl [0, 1] matches .error .under) = true ∧
    (build par0 .ll [1] matches .error .under) = true ∧ (build par0 .d [1] matches .ok _) = true ∧
    (build par0 .d [2] matches .error .under) = true ∧ (build par0 .d [0, 0] matches .error .under) = true ∧
    (build { par0 with emptyDist := .accept } .d [0, 0] matches .ok _) = true := by
  decide +kernel

/-! ### The bit reader: R142's examples -/

theorem test_take_example :
    valAnd (take 3 (giving [0xB5, 0x6C] st0)) (fun v t => v = 5 && t.bits = 0x16 && t.nbits = 5 && t.port.srcPtr = 17) = true ∧
    valAnd (take 7 (holding 0x16 5 (giving [0x6C] st0))) (fun v t => v = 22 && t.bits = 0x1B && t.nbits = 6) = true ∧
    valAnd (take 6 (holding 0x1B 6 st0)) (fun v t => v = 27 && t.bits = 0 && t.nbits = 0) = true ∧
    valAnd (take 0 st0) (fun v t => v = 0 && t.nbits = 0) = true := by decide +kernel

theorem test_take_short :
    stopAnd (take 1 st0) (fun t => t.port.status = .shortRead && t.nbits = 0 && !t.disabled) = true ∧
    stopAnd (take 9 (giving [0xFF] st0)) (fun t => t.port.status = .shortRead && t.bits = 0xFF && t.nbits = 8) = true ∧
    valAnd (take 9 (holding 0xFF 8 (giving [0x01] st0))) (fun v t => v = 511 && t.bits = 0 && t.nbits = 7) = true := by
  decide +kernel

theorem test_take_truncated :
    stopAnd
      (take 1 { st0 with par := { par0 with closedInput := .error }, port := { st0.port with srcClosed := true } })
      (fun t => t.port.status = .truncatedInput && t.disabled) = true := by decide +kernel

/-- R131: `BITS = 1`, `NBITS = 1`, next byte `B5`. -/
theorem test_refill : valAnd (refill (holding 1 1 (giving [0xB5] st0))) (fun _ t => t.bits = 0x16B && t.nbits = 9) = true := by
  decide +kernel

/-- R163: fixed table, stream `4B 4C` after the header: the literal `a`, five bits left. -/
theorem test_decodeSym :
    valAnd (decodeSym (tableOf .ll fixedLL) (holding 0x09 5 (giving [0x4C] st0)))
      (fun y t => y.entry = 0x80006108 && y.len = 8 && t.nbits = 5 && t.bits = 0x989 >>> 8) = true := by decide +kernel

/-! ### Blocks -/

/-- R191: the header bytes `01`, `03`, `05`, `07`. -/
theorem test_header_step :
    nextAnd (step (giving [0x01] (dec .hdr))) (fun t => t.bfinal && t.btype = 0 && t.fsm = .storedLen && t.nbits = 0) = true ∧
    nextAnd (step (giving [0x03] (dec .hdr))) (fun t => t.bfinal && t.btype = 1 && t.fsm = .fixedInit && t.nbits = 5) = true ∧
    nextAnd (step (giving [0x05] (dec .hdr))) (fun t => t.bfinal && t.btype = 2 && t.fsm = .dynHdr && t.nbits = 5) = true ∧
    nextAnd (step (giving [0x07] (dec .hdr)))
      (fun t => t.btype = 3 && t.fsm = .hdr && t.disabled && !t.busy && t.port.status = .badBlockType && t.nbits = 5) = true := by
  decide +kernel

/-- R192: header byte `F9`: the five pad bits are discarded without error. -/
theorem test_pad_ignored :
    nextAnd (exec (.alignPad 5 0x1F) (holding 0x1F 5 st0)) (fun t => t.bits = 0 && t.nbits = 0 && t.fsm = .storedLen) = true := by
  decide +kernel

/-- R193: `03 00 FC FF` and `03 00 FC FE`. -/
theorem test_storedLen :
    nextAnd (step (giving [0x03, 0x00, 0xFC, 0xFF] (dec .storedLen)))
      (fun t => t.loc.rem = 3 && t.fsm = .storedCopy && t.nbits = 0) = true ∧
    nextAnd (step (giving [0x03, 0x00, 0xFC, 0xFE] (dec .storedLen)))
      (fun t => t.port.status = .badStoredLen && t.fsm = .storedLen && t.disabled && t.port.srcPtr = 20) = true := by
  decide +kernel

/-- R195: a byte of a stored block goes out and into the history; a full output is reported before an exhausted input. -/
theorem test_storedByte :
    nextAnd (step (room 1 (giving [0x61] { dec .storedCopy with loc := { Locals.zero with rem := 1 } })))
      (fun t => t.mem.read 64 = 0x61 && t.win.histAt 1 = 0x61 && t.loc.rem = 0 && t.port.srcPtr = 17) = true ∧
    nextAnd (step { dec .storedCopy with loc := { Locals.zero with rem := 3 } })
      (fun t => t.port.status = .shortWrite && t.loc.rem = 3) = true := by decide +kernel

/-- R198: the end of a final and of another block. -/
theorem test_blockEnd :
    nextAnd (step { dec .blockEnd with bfinal := true }) (fun t => t.fsm = .done && !t.busy && t.port.status = .ok) = true ∧
    nextAnd (step (dec .blockEnd)) (fun t => t.fsm = .hdr && t.busy) = true := by decide +kernel

/-- R197: FIXED_INIT goes to LL_SYM with R199's entries in place. -/
theorem test_fixedInit :
    nextAnd (step (dec .fixedInit))
      (fun t => t.fsm = .llSym && readTable t.tab0 0x089 = 0x80006108 && readTable t.tab1 0x017 = 0x406001D5) = true := by
  decide +kernel

/-! ### The dynamic header -/

/-- R221: `0x3800`; R231: HLIT = 287 and HDIST = 31 are refused with the fields written. -/
theorem test_dynHdr :
    nextAnd (exec (.dynHdr 0 0 14) st0) (fun t => t.loc.hlit = 257 && t.loc.hdist = 1 && t.loc.hclen = 18 && t.fsm = .dynCll) = true ∧
    nextAnd (exec (.dynHdr 30 0 0) st0) (fun t => t.port.status = .badCodeLengthCounts && t.loc.hlit = 287) = true ∧
    nextAnd (exec (.dynHdr 0 30 0) st0) (fun t => t.port.status = .badCodeLengthCounts && t.loc.hdist = 31) = true := by
  decide +kernel

/-- R95: the first length is symbol 16's, the fourth symbol 0's, the last symbol 15's. -/
theorem test_cll :
    nextAnd (exec (.cll 7) st0) (fun t => t.getLen 16 = 7 && t.loc.i = 1) = true ∧
    nextAnd (exec (.cll 5) { st0 with loc := { Locals.zero with i := 3 } }) (fun t => t.getLen 0 = 5) = true ∧
    nextAnd (exec (.cll 2) { st0 with loc := { Locals.zero with i := 18 } }) (fun t => t.getLen 15 = 2) = true := by
  decide +kernel

/-- R224: CL_LEN_1 at `I = 0`. -/
theorem test_clLen : nextAnd (exec .clLen1 st0) (fun t => t.getLen 0 = 1 && t.loc.i = 1) = true := by decide +kernel

/-- A dynamic header of 258 lengths with `I` lengths read, the last of them 9. -/
def lens258 (i : BitVec 9) : State :=
  { dec .dynLensSym with loc := { Locals.zero with i := i, hlit := 257, hdist := 1 } }.setLen (i.toNat - 1) 9

/-- R226: 16, 17 and 18 at their greatest counts, and one past the total. -/
theorem test_repeats :
    nextAnd (exec (.clRepPrev 3) (lens258 4)) (fun t => t.loc.i = 10 && t.getLen 4 = 9 && t.getLen 9 = 9 && t.getLen 10 = 0) = true ∧
    nextAnd (exec (.clRepZ3 7) (lens258 4)) (fun t => t.loc.i = 14 && t.getLen 3 = 9 && t.getLen 4 = 0) = true ∧
    nextAnd (exec (.clRepZ11 127) (lens258 0)) (fun t => t.loc.i = 138 && t.fsm = .dynLensSym) = true ∧
    nextAnd (exec (.clRepZ11 127) (lens258 121))
      (fun t => t.port.status = .badCodeLengthTotal && t.fsm = .dynLensExtra && t.loc.i = 121) = true := by decide +kernel

/-- R225: a repeat-previous with no predecessor. -/
theorem test_repeat_first :
    nextAnd (exec (.clRepPrev 0) (lens258 0)) (fun t => t.port.status = .badCodeLengthRepeat && t.fsm = .dynLensSym) = true := by
  decide +kernel

/-- R229: the end-of-block check comes first. -/
theorem test_dynBuild_noEob :
    nextAnd (step { dec .dynBuild with loc := { Locals.zero with hlit := 257, hdist := 1 } })
      (fun t => t.port.status = .missingEob && t.fsm = .dynBuild && t.disabled) = true := by decide +kernel

/-! ### Symbols -/

/-- R261, R262: `a` goes out; with the output full it waits in LIT. -/
theorem test_literal :
    nextAnd (exec .lit97 (room 1 st0)) (fun t => t.mem.read 64 = 0x61 && t.fsm = .llSym && t.port.dstPtr = 65) = true ∧
    nextAnd (exec .lit98 (room 0 (dec .llSym))) (fun t => t.loc.lit = 0x62 && t.fsm = .litOut && t.port.status = .shortWrite) = true := by
  decide +kernel

/-- R264, R104, R106: 265 with extra 1 is 12; 284 with 31 is 258; 285 is 258. -/
theorem test_lengths :
    nextAnd (exec (.len265 1) st0) (fun t => t.loc.length = 12 && t.fsm = .distSym) = true ∧
    nextAnd (exec (.len284 31) st0) (fun t => t.loc.length = 258) = true ∧
    nextAnd (exec .len285 st0) (fun t => t.loc.length = 258) = true := by decide +kernel

/-- R302: after `ab`, `DIST = 2`, `LENGTH = 4` appends `abab`; with room for 1 the copy waits with `REM = 3`. -/
theorem test_copy :
    nextAnd (exec .dist1 (room 4 (history [0x61, 0x62] { dec .distSym with loc := { Locals.zero with length := 4 } })))
      (fun t => [64, 65, 66, 67].map t.mem.read = [0x61, 0x62, 0x61, 0x62] && t.fsm = .llSym && t.win.hfill = 6) = true ∧
    nextAnd (exec .dist1 (room 1 (history [0x61, 0x62] { dec .distSym with loc := { Locals.zero with length := 4 } })))
      (fun t => t.fsm = .copy && t.loc.rem = 3 && t.loc.dist = 2 && t.port.status = .shortWrite) = true := by decide +kernel

/-- R266: after `ab`, distance 3 is one too far, even with the output full. -/
theorem test_bad_distance :
    nextAnd (exec .dist2 (history [0x61, 0x62] { dec .distSym with loc := { Locals.zero with length := 3 } }))
      (fun t => t.port.status = .badDistance && t.fsm = .distExtra && t.loc.dist = 3 && t.disabled) = true := by decide +kernel

/-- R265, R374: fixed D 31 takes its five bits and disables. -/
theorem test_reserved_step :
    nextAnd (step (holding 0xFF 8 (fixedTabs (dec .distSym))))
      (fun t => t.port.status = .badHuffmanCode && t.nbits = 3 && t.fsm = .distSym && t.disabled) = true := by decide +kernel

/-- R263. -/
theorem test_eob : nextAnd (exec .eob st0) (fun t => t.eob && t.fsm = .blockEnd) = true := by decide +kernel

/-! ### The history and the commands -/

/-- R300: `HistAt(1) = b`, `HistAt(2) = a`. -/
theorem test_histAt :
    (history [0x61, 0x62] st0).win.histAt 1 = 0x62 ∧ (history [0x61, 0x62] st0).win.histAt 2 = 0x61 := by decide +kernel

/-- R301: the counters at the top of the ring. -/
theorem test_append_wraps :
    let w := ({ st0.win with hidx := 32767, hfill := 32767 } : Window).append 0x41
    w.hidx = 0 ∧ w.hfill = 32768 ∧ (w.append 0x42).hfill = 32768 := by decide +kernel

/-- R411: a RESET after an error. -/
theorem test_reset :
    nextAnd (step { cmd 0 with disabled := true, fsm := .distExtra, nbits := 5 })
      (fun t => !t.disabled && t.fsm = .hdr && t.nbits = 0 && t.port.status = .ok && !t.busy) = true := by decide +kernel

/-- R341, R344: DECODE on a disabled, a finished and a fresh engine. -/
theorem test_decode_command :
    nextAnd (step { cmd 1 with disabled := true }) (fun t => t.port.status = .disabled && !t.busy) = true ∧
    nextAnd (step { cmd 1 with fsm := .done }) (fun t => t.port.status = .ok && !t.busy) = true ∧
    nextAnd (step (cmd 1)) (fun t => t.busy && t.decoding && t.fsm = .hdr) = true := by decide +kernel

/-- R41: a DECODE with its output inside its input is refused. -/
theorem test_decode_overlap :
    (step { cmd 1 with port := { (cmd 1).port with srcPtr := 16, srcEnd := 32, dstPtr := 31, dstEnd := 33 } }
      matches .refused .illegalOperands) = true := by decide +kernel

/-- R41: the ADD_HISTORY range counts too: one that meets the output range stops a DECODE and an ADD_HISTORY, one beside it
neither. -/
theorem test_history_overlap :
    let s (c : BitVec 2) (h : Nat) : State :=
      { cmd c with port := { (cmd c).port with dstPtr := 32, dstEnd := 33, hbPtr := h, hbLen := 1 } }
    (step (s 1 32) matches .refused .illegalOperands) = true ∧ (step (s 2 32) matches .refused .illegalOperands) = true ∧
    nextAnd (step (s 1 31)) (fun t => t.decoding) = true ∧ nextAnd (step (s 2 33)) (fun t => t.win.hfill = 1) = true ∧
    nextAnd (step (s 0 32)) (fun t => t.port.status = .ok) = true := by decide +kernel

/-- R305: two bytes appended in order. -/
theorem test_addHistory :
    nextAnd (step { cmd 2 with mem := [(5, 0x61), (6, 0x62)], port := { (cmd 2).port with hbPtr := 5, hbLen := 2 } })
      (fun t => t.win.histAt 2 = 0x61 && t.win.histAt 1 = 0x62 && t.win.hfill = 2 && t.port.status = .ok) = true := by
  decide +kernel

/-- R342: on a disabled engine too. -/
theorem test_workbufLen :
    nextAnd (step { cmd 3 with disabled := true, par := { par0 with workbuf := 7 } })
      (fun t => t.port.wbMin = 7 && t.port.wbMax = 7 && t.port.status = .ok && t.disabled) = true := by decide +kernel

/-- R332: a second command while busy is refused, and reported by an engine at a state boundary. -/
theorem test_interleaved :
    (hostWrite 0 0 (dec .llSym) matches .refused .interleavedCommand) = true ∧
    nextAnd (step (hostCommand 0 (dec .llSym))) (fun t => t.port.status = .interleaved && t.disabled && t.fsm = .llSym) = true := by
  decide +kernel

/-- R332, R195: between two bytes of a stored block no state boundary stands: the byte goes out, and with the last one the state is
left, for the report to follow. -/
theorem test_interleaved_loop :
    nextAnd
      (step (hostCommand 0 (room 2 (giving [7] { dec .storedCopy with inLoop := true, loc := { Locals.zero with rem := 1 } }))))
      (fun t => t.busy && t.mem.read 64 = 7 && t.fsm = .storedCopy) = true ∧
    nextAnd (step (hostCommand 0 { dec .storedCopy with inLoop := true }))
      (fun t => t.busy && t.fsm = .blockEnd &&
        nextAnd (step t) fun u => u.port.status = .interleaved && u.fsm = .blockEnd && u.disabled && !u.busy) = true := by
  decide +kernel

/-- R40, R331: the host reads FLAGS and STATUS, and cannot read an operand it only writes. -/
theorem test_host_read :
    (hostRead 13 { st0 with disabled := true, fsm := .done } matches .ok 6) = true ∧
    (hostRead 1 { st0 with port := { st0.port with status := .badDistance } } matches .ok 0x1A) = true ∧
    (hostRead 3 st0 matches .error .noHostAccess) = true := by decide +kernel

/-- R72, R360: while BUSY = 1 the host reads FLAGS alone. -/
theorem test_host_read_busy :
    (hostRead 13 (dec .llSym) matches .ok 1) = true ∧ (hostRead 5 (dec .llSym) matches .error .hostAccessWhileBusy) = true := by
  decide +kernel

/-- R90, log 10: the placed instruction is the very next one: LIT_97, header value 3, RESET. -/
theorem test_withFetchWord :
    nextAnd (step (room 1 (st0.withFetchWord 16 97))) (fun t => t.mem.read 64 = 0x61) = true ∧
    nextAnd (step (st0.withFetchWord 8 7)) (fun t => t.port.status = .badBlockType) = true ∧
    nextAnd (step (st0.withFetchWord 8 0)) (fun t => t.port.status = .ok && !t.busy) = true := by decide +kernel

/-! ### Witnesses: for each obligation with hypotheses, a state and operands that meet all of them -/

theorem readTable_zero (i : Nat) : readTable (Vector.replicate 1024 0) i = 0 := by
  by_cases h : i < 1024 <;> simp [readTable, h]

theorem tableProgress_zero : TableProgress (Vector.replicate 1024 0) := by
  intro i h
  rw [readTable_zero] at h
  exact absurd (by decide) h

theorem tablesOk_st0 : st0.TablesOk := ⟨tableProgress_zero, tableProgress_zero⟩

theorem entriesOk_st0 : st0.EntriesOk := by
  constructor <;> intro i h <;> change entryKind (readTable (Vector.replicate 1024 0) i) = .base at h <;>
    rw [readTable_zero] at h <;> exact absurd h (by decide)

theorem lensOk_fixedLL : LensOk fixedLL := by decide +kernel

theorem lensOk_fixedD : LensOk fixedD := by decide +kernel

theorem builtFrom_fixedLL (p : Params) : BuiltFrom p .ll fixedLL (tableOf .ll fixedLL) := ⟨lensOk_fixedLL, build_fixedLL p⟩

theorem builtFrom_fixedD (p : Params) : BuiltFrom p .d fixedD (tableOf .d fixedD) := ⟨lensOk_fixedD, build_fixedD p⟩

/-- A code with a sub-table: lengths 1 to 9, and 10 twice. -/
def longCode : List Nat := [1, 2, 3, 4, 5, 6, 7, 8, 9, 10, 10]

theorem builtFrom_longCode (p : Params) : BuiltFrom p .ll longCode (tableOf .ll longCode) :=
  ⟨by decide, build_of_complete (by decide +kernel) (by decide +kernel) (by decide +kernel)⟩

/-- The degenerate distance code of R155: one code of one bit. -/
theorem builtFrom_oneDist : BuiltFrom par0 .d [1] (tableOf .d [1]) := by
  refine ⟨by decide, ?_⟩
  have hk : kraftLoop [1] (shortLengths ++ longLengths) 1 = some (2 ^ 14) := by decide +kernel
  have ha : acceptsUnder par0 .d [1] = true := by decide +kernel
  rw [build, hk]
  dsimp only
  rw [ha, if_neg (by simp), if_neg (by decide +kernel), if_neg (by decide +kernel)]

/-- The CL code of `placeTable` builds. -/
theorem builtFrom_placeCL (p : Params) : BuiltFrom p .cl placeCL (placeTable .cl) :=
  ⟨by decide +kernel, build_of_complete (by decide +kernel) (by decide +kernel) (by decide +kernel)⟩

theorem wit_ResetFrame : ∃ t, exec .reset st0 = .next t := ⟨_, rfl⟩

theorem wit_IdleHoldsEverything :
    st0.busy = false ∧ (∃ t, hostWrite 3 5 st0 = .next t ∧ t.port.srcEnd = 5) ∧ (∃ t, hostStore 0 1 st0 = .next t) ∧
    (∃ t, hostStore (2 ^ 32 - 1) 1 st0 = .next t) ∧ hostWrite 0 1 st0 ≠ .next st0 := by
  refine ⟨rfl, ?_, ?_, ?_, ?_⟩
  · obtain ⟨t, h, p⟩ := exists_next (o := hostWrite 3 5 st0) (P := fun t => t.port.srcEnd = 5) (by decide +kernel)
    exact ⟨t, h, by simpa using p⟩
  · obtain ⟨t, h, -⟩ := exists_next (o := hostStore 0 1 st0) (P := fun _ => true) (by decide +kernel)
    exact ⟨t, h⟩
  · obtain ⟨t, h, -⟩ := exists_next (o := hostStore (2 ^ 32 - 1) 1 st0) (P := fun _ => true) (by decide +kernel)
    exact ⟨t, h⟩
  · intro h
    have hb := congrArg (fun o => nextAnd o (fun t => t.busy)) h
    simp [hostWrite, hostCommand, nextAnd, st0, State.resetWith] at hb

theorem wit_HistoryAppend :
    (({ st0.win with hfill := 32768 } : Window).hfill.toNat ≤ 32768 ∧ 1 ≤ 1 ∧ 1 ≤ 32767) ∧
    (({ st0.win with hidx := 32767, hfill := 32767 } : Window).hfill.toNat ≤ 32768 ∧ 1 ≤ 32767 ∧ 32767 ≤ 32767) := by decide

/-- An idle and a busy engine whose registers fit, the greatest address included. -/
theorem wit_HostRegisters :
    st0.busy = false ∧ (dec .llSym).busy = true ∧
    ({ st0 with port := { st0.port with srcEnd := 2 ^ 32 - 1 } } : State).PortOk ∧
    ∃ t, hostWrite 10 (2 ^ 32 - 1) { st0 with port := { st0.port with srcEnd := 2 ^ 32 - 1 } } = .next t :=
  ⟨rfl, rfl, by decide +kernel, _, rfl⟩

theorem wit_StepRunsFetched :
    ((cmd 0).busy = true ∧ (cmd 0).interleaved = false ∧ ∃ i t, fetch (cmd 0) = .instr i t) ∧
    ((dec .blockEnd).busy = true ∧ (dec .blockEnd).interleaved = false ∧ ∃ o, fetch (dec .blockEnd) = .engine o) ∧
    ∀ c : BitVec 2, (cmd c).busy = true ∧ (cmd c).decoding = false ∧ (cmd c).interleaved = false ∧ (cmd c).port.cmd = c :=
  ⟨⟨rfl, rfl, _, _, rfl⟩, ⟨rfl, rfl, _, rfl⟩, fun _ => ⟨rfl, rfl, rfl, rfl⟩⟩

/-- A slot with no alphabet needs no table. -/
theorem reads_plain {s : State} {slot : Slot} {tab : Table} (h : s.Decoding ∧ s.fastReady = false ∧ s.awaits = some (slot, tab))
    (hc : s.AccOk ∧ s.CursorsOk ∧ s.port.srcEnd ≤ 2 ^ s.par.addrW ∧ (slot = .storedLen → s.nbits.toNat % 8 = 0))
    (hs : slotAlphabet slot = none) : s.Reads slot tab :=
  ⟨h.1, h.2.1, h.2.2, hc.1, hc.2.1, hc.2.2.1, hc.2.2.2, fun _ h => by rw [hs] at h; cases h⟩

/-- A slot with an alphabet, and a table built for it. -/
theorem reads_symbol {s : State} {slot : Slot} {tab : Table} {A : Alphabet} {lens : List Nat}
    (h : s.Decoding ∧ s.fastReady = false ∧ s.awaits = some (slot, tab))
    (hc : s.AccOk ∧ s.CursorsOk ∧ s.port.srcEnd ≤ 2 ^ s.par.addrW ∧ slot ≠ .storedLen)
    (hs : slotAlphabet slot = some A) (hb : BuiltFrom s.par A lens tab) : s.Reads slot tab :=
  ⟨h.1, h.2.1, h.2.2, hc.1, hc.2.1, hc.2.2.1, fun e => absurd e hc.2.2.2, fun B hB => by
    rw [hs, Option.some.injEq] at hB
    exact hB ▸ ⟨lens, hb⟩⟩

/-- DYN_HDR with five of its fourteen bits held, the others in the two bytes to come (R221's `3800`). -/
def dynSplit : State := holding 0 5 (giving [0xC0, 0x01] (dec .dynHdr))

/-- DIST_SYM with two bits of the fixed code of symbol 4 held, and its other three and the extra bit in the byte to come. -/
def distSplit : State := holding 0 2 (giving [0x09] (fixedTabs (dec .distSym)))

/-- Fields that refills complete, a length word from no bits held, and a symbol with its extra field. -/
theorem wit_StepRunsDecodedElement_stream :
    (dynSplit.Reads .dynHdr dynSplit.tab0 ∧ fieldsOf .dynHdr dynSplit.streamValue = some (.dynHdr 0 0 14, 14) ∧
      14 ≤ dynSplit.streamLen) ∧
    ((giving [3, 0, 0xFC, 0xFF] (dec .storedLen)).Reads .storedLen st0.tab0 ∧
      fieldsOf .storedLen (giving [3, 0, 0xFC, 0xFF] (dec .storedLen)).streamValue = some (.storedLen 3 0xFFFC, 32) ∧
      32 ≤ (giving [3, 0, 0xFC, 0xFF] (dec .storedLen)).streamLen) ∧
    (distSplit.Reads .dist (tableOf .d fixedD) ∧ fieldsOf .dist distSplit.streamValue = some (.dist 4 1, 6) ∧
      6 ≤ distSplit.streamLen) :=
  ⟨⟨reads_plain ⟨by decide, by decide, rfl⟩ (by decide +kernel) rfl, by decide +kernel⟩,
    ⟨reads_plain ⟨by decide, by decide, rfl⟩ (by decide +kernel) rfl, by decide +kernel⟩,
    reads_symbol ⟨by decide, by decide, rfl⟩ (by decide +kernel) rfl (builtFrom_fixedD _), by decide +kernel⟩

/-- R221: the step reads the fourteen bits and leaves seven. -/
theorem test_dynHdr_split :
    nextAnd (step dynSplit) (fun t => t.loc.hclen = 18 && t.fsm = .dynCll && t.nbits = 7 && t.port.srcPtr = 18) = true := by
  decide +kernel

/-- A header, and a repeat-previous symbol that has a predecessor, all their bits held. -/
theorem wit_StepRunsDecodedElement :
    ((holding 3 3 (dec .hdr)).Decoding ∧ (holding 3 3 (dec .hdr)).fastReady = false ∧
      (∃ t, (holding 3 3 (dec .hdr)).awaits = some (.header, t) ∧
        decode .header t (holding 3 3 (dec .hdr)).bits = .ok (.blockFixed true, 3)) ∧
      3 ≤ (holding 3 3 (dec .hdr)).nbits.toNat ∧ ∀ x, (Instr.blockFixed true).shape ≠ .cl 16 x) ∧
    (∃ s : State, s.Decoding ∧ s.fastReady = false ∧ s.awaits = some (.cl, placeTable .cl) ∧
      fieldsOf .cl s.bits.toNat = some (.cl 16 3, 7) ∧ 7 ≤ s.nbits.toNat ∧ s.loc.i ≠ 0) := by
  refine ⟨⟨by decide, by decide, ⟨_, rfl, rfl⟩, by decide, by intro x h; cases h⟩, ?_⟩
  exact ⟨{ holding (BitVec.ofNat 32 (sent 5 29 + 2 ^ 5 * 3)) 7 (lens258 4) with tab0 := placeTable .cl },
    by decide, by decide +kernel, rfl, by decide +kernel, by decide, by decide⟩

/-- CL symbol 16 in `placeTable`'s code (`11101`), with one of its two extra bits. -/
def shortRepeat : State := { holding (BitVec.ofNat 32 (sent 5 29)) 6 (lens258 4) with tab0 := placeTable .cl }

/-- Length symbol 284 in the fixed code (`11000100`), with none of its five extra bits. -/
def shortLength : State := giving [0x23] (fixedTabs (dec .llSym))

/-- Distance symbol 29 in the fixed code (`11101`), with the first three of its thirteen extra bits. -/
def shortDist : State := giving [0x17] (fixedTabs (dec .distSym))

/-- A length word of three bytes, a literal's code of which five bits are there, and the three symbols without all of their extra
field. -/
theorem wit_ShortElements :
    ((giving [3, 0, 0xFC] (dec .storedLen)).Reads .storedLen st0.tab0 ∧ (giving [3, 0, 0xFC] (dec .storedLen)).streamLen < 32) ∧
    ((holding 0x09 5 (fixedTabs (dec .llSym))).Reads .ll (tableOf .ll fixedLL) ∧
      (holding 0x09 5 (fixedTabs (dec .llSym))).streamLen < slotNeeds .ll (tableOf .ll fixedLL) 0x09) ∧
    (shortRepeat.Reads .cl (placeTable .cl) ∧ BuiltFrom shortRepeat.par .cl placeCL (placeTable .cl) ∧ 5 = placeCL.getD 16 0 ∧
      5 ≤ shortRepeat.streamLen ∧ shortRepeat.streamValue % 2 ^ 5 = revBits 5 (codeOf placeCL 16) ∧ shortRepeat.loc.i ≠ 0 ∧
      shortRepeat.streamLen < 5 + repeatExtra 16) ∧
    (shortLength.Reads .ll (tableOf .ll fixedLL) ∧ BuiltFrom shortLength.par .ll fixedLL (tableOf .ll fixedLL) ∧
      8 = fixedLL.getD 284 0 ∧ 8 ≤ shortLength.streamLen ∧ shortLength.streamValue % 2 ^ 8 = revBits 8 (codeOf fixedLL 284) ∧
      shortLength.streamLen < 8 + lenExtra.getD (284 - 257) 0) ∧
    (shortDist.Reads .dist (tableOf .d fixedD) ∧ BuiltFrom shortDist.par .d fixedD (tableOf .d fixedD) ∧
      5 = fixedD.getD 29 0 ∧ 5 ≤ shortDist.streamLen ∧ shortDist.streamValue % 2 ^ 5 = revBits 5 (codeOf fixedD 29) ∧
      shortDist.streamLen < 5 + distExtra.getD 29 0) :=
  ⟨⟨reads_plain ⟨by decide, by decide, rfl⟩ (by decide +kernel) rfl, by decide +kernel⟩,
    ⟨reads_symbol ⟨by decide, by decide, rfl⟩ (by decide +kernel) rfl (builtFrom_fixedLL _), by decide +kernel⟩,
    ⟨reads_symbol ⟨by decide, by decide, rfl⟩ (by decide +kernel) rfl (builtFrom_placeCL _), builtFrom_placeCL _,
      by decide +kernel⟩,
    ⟨reads_symbol ⟨by decide, by decide, rfl⟩ (by decide +kernel) rfl (builtFrom_fixedLL _), builtFrom_fixedLL _,
      by decide +kernel⟩,
    reads_symbol ⟨by decide, by decide, rfl⟩ (by decide +kernel) rfl (builtFrom_fixedD _), builtFrom_fixedD _, by decide +kernel⟩

/-- R142, R264: the length symbol stays latched, its extra field still to come. -/
theorem test_short_length :
    nextAnd (step shortLength)
      (fun t => t.port.status = .shortRead && t.fsm = .lenExtra && t.loc.lbase = 227 && t.loc.lnx = 5 && t.nbits = 0) = true := by
  decide +kernel

/-- A state boundary, and DYN_CLL inside its loop: with a length to read, and with no input. -/
theorem wit_InterleavedCommand :
    ((dec .copy).busy = true ∧ (dec .copy).inLoop = false) ∧
    ∃ s : State, s.busy = true ∧ s.ControlOk ∧ s.inLoop = true ∧
      (∃ u, step { s with interleaved := false } = .next u ∧ u.busy = false) ∧
      ∃ u, step { giving [6] s with interleaved := false } = .next u ∧ u.busy = true :=
  ⟨⟨rfl, rfl⟩, { dec .dynCll with inLoop := true, loc := { Locals.zero with hclen := 4 } }, rfl, by decide, rfl,
    ⟨_, rfl, rfl⟩, _, rfl, rfl⟩

theorem wit_BlockHeaders :
    ((holding 0x1F 5 st0).AccOk ∧ (holding 0x1F 5 st0).nbits.toNat < 8) ∧
    ((holding 0x7F 7 st0).AccOk ∧ (holding 0x7F 7 st0).nbits.toNat < 8) ∧
    8 ≤ (holding 0 8 st0).nbits.toNat ∧ (holding 2 1 st0).bits >>> (holding 2 1 st0).nbits.toNat ≠ 0 := by decide

theorem wit_StoredLenChecks : (0xFFFC : BitVec 16) = 3 ^^^ 0xFFFF ∧ (0xFEFC : BitVec 16) ≠ 3 ^^^ 0xFFFF := by decide

theorem wit_StoredByteCopies :
    ((room 1 st0).port.dstPtr ≠ (room 1 st0).port.dstEnd ∧ (room 1 st0).inSpace (room 1 st0).port.dstPtr = true) ∧
    (∃ s : State, s.port.dstPtr ≠ s.port.dstEnd ∧ s.inSpace s.port.dstPtr = false) ∧
    (room 0 st0).port.dstPtr = (room 0 st0).port.dstEnd := by
  refine ⟨by decide, ⟨{ st0 with port := { st0.port with dstPtr := 2 ^ 32 } }, by decide, by decide⟩, rfl⟩

/-- STORED_COPY with `n` bytes to go. -/
def copying (n : BitVec 16) : State := { dec .storedCopy with loc := { Locals.zero with rem := n } }

theorem wit_StoredCopyPass :
    ((copying 0).Decoding ∧ (copying 0).fsm = .storedCopy ∧ (copying 0).loc.rem = 0) ∧
    ((copying 1).Decoding ∧ (copying 1).fsm = .storedCopy ∧ (copying 1).loc.rem ≠ 0 ∧
      (copying 1).port.dstPtr = (copying 1).port.dstEnd) ∧
    (∃ s : State, s.Decoding ∧ s.fsm = .storedCopy ∧ s.loc.rem ≠ 0 ∧ s.port.dstPtr ≠ s.port.dstEnd ∧
      s.port.srcPtr = s.port.srcEnd) ∧
    (∃ s : State, s.Decoding ∧ s.fsm = .storedCopy ∧ s.loc.rem ≠ 0 ∧ s.port.dstPtr ≠ s.port.dstEnd ∧
      s.port.srcPtr ≠ s.port.srcEnd ∧ s.inSpace s.port.srcPtr = true ∧ s.inSpace s.port.dstPtr = true) :=
  ⟨by decide, by decide, ⟨room 1 (copying 65535), by decide⟩, ⟨room 1 (giving [7] (copying 1)), by decide⟩⟩

theorem wit_FixedInitBuilds : (dec .fixedInit).Decoding ∧ (dec .fixedInit).fsm = .fixedInit := by decide

theorem wit_EndOfBlock :
    ((dec .blockEnd).Decoding ∧ (dec .blockEnd).fsm = .blockEnd ∧ (dec .blockEnd).bfinal = false) ∧
    ∃ s : State, s.Decoding ∧ s.fsm = .blockEnd ∧ s.bfinal = true :=
  ⟨by decide, { dec .blockEnd with bfinal := true }, by decide⟩

theorem wit_DoneOnlyFromFinalBlock : ∃ s t : State, step s = .next t ∧ t.fsm = .done ∧ s.fsm ≠ .done ∧ s.Decoding := by
  obtain ⟨t, h, p⟩ := exists_next (o := step { dec .blockEnd with bfinal := true }) (P := fun t => t.fsm = .done)
    (by decide +kernel)
  exact ⟨_, t, h, by simpa using p, by decide, by decide⟩

theorem wit_DynHdrFields :
    ((29 : BitVec 5).toNat + 257 ≤ 286 ∧ (29 : BitVec 5).toNat + 1 ≤ 30) ∧
    ¬ ((30 : BitVec 5).toNat + 257 ≤ 286 ∧ (0 : BitVec 5).toNat + 1 ≤ 30) ∧
    ¬ ((0 : BitVec 5).toNat + 257 ≤ 286 ∧ (30 : BitVec 5).toNat + 1 ≤ 30) := by decide

theorem wit_CllWritesLength :
    (st0.loc.i.toNat < 19 ∧ 16 = [16, 17, 18, 0, 8, 7, 9, 6, 10, 5, 11, 4, 12, 3, 13, 2, 14, 1, 15].getD st0.loc.i.toNat 0) ∧
    ∃ s : State, s.loc.i.toNat < 19 ∧
      15 = [16, 17, 18, 0, 8, 7, 9, 6, 10, 5, 11, 4, 12, 3, 13, 2, 14, 1, 15].getD s.loc.i.toNat 0 :=
  ⟨by decide, { st0 with loc := { Locals.zero with i := 18 } }, by decide⟩

/-- DYN_CLL with 18 lengths read: 1 for the symbols 18 and 1 (R222's example), or with none of them. -/
def cllRead (a b : BitVec 4) : State :=
  ({ dec .dynCll with loc := { Locals.zero with i := 18, hclen := 18 } }.setLen 18 a).setLen 1 b

theorem wit_CllTableBuilt :
    ((cllRead 1 1).Decoding ∧ (cllRead 1 1).fsm = .dynCll ∧ (cllRead 1 1).loc.hclen.toNat ≤ (cllRead 1 1).loc.i.toNat ∧
      (build (cllRead 1 1).par .cl ((cllRead 1 1).lensFrom 0 19) matches .ok _) = true) ∧
    ((cllRead 1 0).Decoding ∧ (cllRead 1 0).fsm = .dynCll ∧ (cllRead 1 0).loc.hclen.toNat ≤ (cllRead 1 0).loc.i.toNat ∧
      (build (cllRead 1 0).par .cl ((cllRead 1 0).lensFrom 0 19) matches .error .under) = true) := by decide +kernel

theorem wit_CodeLengthSymbol :
    (Instr.clLen0.shape = .cl 0 0 ∧ st0.loc.i.toNat < 320) ∧
    (Instr.clLen15.shape = .cl 15 0 ∧ ({ st0 with loc := { Locals.zero with i := 319 } } : State).loc.i.toNat < 320) := by decide

theorem wit_RepeatSymbols :
    ((Instr.clRepPrev 3).shape = .cl 16 3 ∧ (lens258 252).loc.i ≠ 0 ∧ (lens258 252).loc.i.toNat + 6 ≤ (lens258 252).lensTotal ∧
      (lens258 252).lensTotal ≤ 316) ∧
    ((Instr.clRepZ3 7).shape = .cl 17 7 ∧ (lens258 248).loc.i.toNat + 10 ≤ (lens258 248).lensTotal) ∧
    ((Instr.clRepZ11 127).shape = .cl 18 127 ∧ (lens258 120).loc.i.toNat + 138 ≤ (lens258 120).lensTotal) ∧
    ((Instr.clRepZ11 127).shape = .cl 18 127 ∧ (lens258 121).lensTotal < (lens258 121).loc.i.toNat + 138) ∧
    (lens258 253).lensTotal < (lens258 253).loc.i.toNat + 6 := by decide +kernel

/-- R231: the CL code {1: `0`, 16: `1`}, about to read a 16. -/
def firstRepeat : State := { holding 1 1 (lens258 0) with tab0 := tableOf .cl ([0, 1] ++ List.replicate 14 0 ++ [1]) }

theorem wit_RepeatPredecessor :
    (firstRepeat.Decoding ∧ firstRepeat.fsm = .dynLensSym ∧ firstRepeat.loc.i = 0 ∧ firstRepeat.lensTotal ≠ 0 ∧
      ∃ y s1, decodeSym firstRepeat.tab0 firstRepeat = .val y s1 ∧ entryKind y.entry = .lit ∧ entryPayload y.entry = 16) ∧
    ((lens258 0).loc.i = 0 ∧ 3 + (7 : BitVec 3).toNat ≤ (lens258 0).lensTotal ∧
      11 + (127 : BitVec 7).toNat ≤ (lens258 0).lensTotal) ∧
    (∃ s : State, s.loc.i = s.loc.hlit ∧ 257 ≤ s.loc.hlit.toNat ∧ s.loc.hlit.toNat + 3 + (3 : BitVec 2).toNat ≤ s.lensTotal ∧
      s.lensTotal ≤ 316) := by
  refine ⟨⟨by decide, rfl, rfl, by decide +kernel, ?_⟩, by decide +kernel, ?_⟩
  · obtain ⟨y, t, h, p⟩ := exists_val (r := decodeSym firstRepeat.tab0 firstRepeat)
      (P := fun y _ => decide (entryKind y.entry = .lit) && decide (entryPayload y.entry = 16)) (by decide +kernel)
    simp only [Bool.and_eq_true, decide_eq_true_eq] at p
    exact ⟨y, t, h, p⟩
  · exact ⟨{ st0 with loc := { Locals.zero with i := 257, hlit := 257, hdist := 6 } }, by decide⟩

/-- DYN_BUILD with the LL lengths of symbols 65 and 256 `a` and `b`, and the one D length `c`. -/
def building (a b c : BitVec 4) : State :=
  (({ dec .dynBuild with loc := { Locals.zero with hlit := 257, hdist := 1 } }.setLen 65 a).setLen 256 b).setLen 257 c

theorem wit_DynBuildOrder :
    ((lens258 258).Decoding ∧ (lens258 258).fsm = .dynLensSym ∧ (lens258 258).loc.i.toNat = (lens258 258).lensTotal) ∧
    ((building 1 0 1).Decoding ∧ (building 1 0 1).fsm = .dynBuild ∧ (building 1 0 1).getLen 256 = 0) ∧
    ((building 0 1 1).getLen 256 ≠ 0 ∧ (build par0 .ll ((building 0 1 1).lensFrom 0 257) matches .error _) = true) ∧
    ((building 1 1 0).getLen 256 ≠ 0 ∧ (build par0 .ll ((building 1 1 0).lensFrom 0 257) matches .ok _) = true ∧
      (build par0 .d ((building 1 1 0).lensFrom 257 1) matches .error _) = true) ∧
    ((building 1 1 1).getLen 256 ≠ 0 ∧ (build par0 .ll ((building 1 1 1).lensFrom 0 257) matches .ok _) = true ∧
      (build par0 .d ((building 1 1 1).lensFrom 257 1) matches .ok _) = true) := by decide +kernel

theorem wit_LiteralSymbols :
    (Instr.lit0.shape = .ll 0 0 ∧ Instr.lit255.shape = .ll 255 0) ∧
    ((room 1 st0).port.dstPtr ≠ (room 1 st0).port.dstEnd ∧ (room 1 st0).inSpace (room 1 st0).port.dstPtr = true) ∧
    (∃ s : State, s.port.dstPtr ≠ s.port.dstEnd ∧ s.inSpace s.port.dstPtr = false) ∧
    (room 0 st0).port.dstPtr = (room 0 st0).port.dstEnd :=
  ⟨by decide, by decide, ⟨{ st0 with port := { st0.port with dstPtr := 2 ^ 32 } }, by decide, by decide⟩, rfl⟩

/-- A DIST_SYM whose one bit is the degenerate code's 1 (R155). -/
def noSymbol : State := { holding 1 1 (dec .distSym) with tab1 := tableOf .d [1] }

/-- A reserved symbol of the fixed code, and a code with no symbol. -/
theorem wit_ReservedSymbols :
    (∃ s : State, s.Decoding ∧ s.fastReady = false ∧ s.fsm = .llSym ∧
      ∃ y t, decodeSym s.tab0 s = .val y t ∧ entryKind y.entry = .invalid) ∧
    noSymbol.Decoding ∧ noSymbol.fastReady = false ∧ noSymbol.fsm = .distSym ∧
      ∃ y t, decodeSym noSymbol.tab1 noSymbol = .val y t ∧ entryKind y.entry = .invalid := by
  refine ⟨⟨holding 0x63 8 (fixedTabs (dec .llSym)), by decide, by decide, rfl, ?_⟩, by decide, by decide, rfl, ?_⟩
  · obtain ⟨y, t, h, p⟩ := exists_val (r := decodeSym (tableOf .ll fixedLL) (holding 0x63 8 (fixedTabs (dec .llSym))))
      (P := fun y _ => decide (entryKind y.entry = .invalid)) (by decide +kernel)
    exact ⟨y, t, h, by simpa using p⟩
  · obtain ⟨y, t, h, p⟩ := exists_val (r := decodeSym noSymbol.tab1 noSymbol)
      (P := fun y _ => decide (entryKind y.entry = .invalid)) (by decide +kernel)
    exact ⟨y, t, h, by simpa using p⟩

/-- R265, R374: the pattern with no symbol is E_BAD_HUFFMAN_CODE, its one bit consumed. -/
theorem test_no_symbol :
    nextAnd (step noSymbol) (fun t => t.port.status = .badHuffmanCode && t.nbits = 0 && t.fsm = .distSym && t.disabled) = true := by
  decide +kernel

theorem wit_LengthSymbols :
    Instr.len257.shape = .ll 257 0 ∧ (Instr.len284 31).shape = .ll 284 31 ∧ Instr.len285.shape = .ll 285 0 := by decide

/-- DIST_SYM with `n` bytes of history (all 0) and `len` bytes to copy. -/
def matching (n : BitVec 16) (len : BitVec 9) : State :=
  { dec .distSym with win := { st0.win with hfill := n }, loc := { Locals.zero with length := len } }

/-- The nearest distance with one byte of history, the furthest with a full one. -/
theorem wit_DistanceSymbols :
    (Instr.dist0.shape = .dist 0 0 ∧ 1 = distBase.getD 0 0 + 0 ∧ 1 ≤ (room 258 (matching 1 258)).win.hfill.toNat ∧
      (room 258 (matching 1 258)).win.hfill.toNat ≤ 32768 ∧ (room 258 (matching 1 258)).MemOk ∧
      (room 258 (matching 1 258)).Room 258 ∧ (room 258 (matching 1 258)).loc.length.toNat = 258) ∧
    ((Instr.dist29 8191).shape = .dist 29 8191 ∧ 32768 = distBase.getD 29 0 + 8191 ∧
      32768 ≤ (room 3 (matching 32768 3)).win.hfill.toNat ∧ (room 3 (matching 32768 3)).win.hfill.toNat ≤ 32768 ∧
      (room 3 (matching 32768 3)).MemOk ∧ (room 3 (matching 32768 3)).Room 3 ∧
      (room 3 (matching 32768 3)).loc.length.toNat = 3) := by decide +kernel

theorem wit_DistanceStops :
    (Instr.dist1.shape = .dist 1 0 ∧ 2 = distBase.getD 1 0 + 0 ∧ (matching 1 3).win.hfill.toNat < 2) ∧
    (2 ≤ (room 2 (matching 2 3)).win.hfill.toNat ∧ (room 2 (matching 2 3)).CursorsOk ∧
      (room 2 (matching 2 3)).port.dstEnd ≤ 2 ^ (room 2 (matching 2 3)).par.addrW ∧
      (room 2 (matching 2 3)).win.hfill.toNat ≤ 32768 ∧ (room 2 (matching 2 3)).MemOk ∧
      (room 2 (matching 2 3)).port.dstEnd < (room 2 (matching 2 3)).port.dstPtr + (room 2 (matching 2 3)).loc.length.toNat) := by
  decide +kernel

theorem wit_DistanceFrame :
    Instr.dist1.shape = .dist 1 0 ∧ (matching 1 3).busy = true ∧ (∃ t, exec .dist1 (matching 1 3) = .next t) := by
  obtain ⟨t, h, -⟩ := exists_next (o := exec .dist1 (matching 1 3)) (P := fun _ => true) (by decide +kernel)
  exact ⟨rfl, rfl, t, h⟩

/-- A DYN_LENS_EXTRA that waits for the extra bits of symbol `y`. -/
def repeating (y : BitVec 5) : State :=
  { lens258 4 with fsm := .dynLensExtra, loc := { (lens258 4).loc with repsym := y } }

/-- A COPY at the furthest distance, with three bytes to go and room for two of them. -/
def copyFurthest : State :=
  room 2 { dec .copy with win := { st0.win with hfill := 32768 }, loc := { Locals.zero with dist := 32768, rem := 3 } }

/-- Each resumed state, with its extra field there and without. -/
theorem wit_ResumedPasses :
    ((room 0 (dec .litOut)).Decoding ∧ (room 1 (dec .litOut)).Decoding ∧
      (room 1 (dec .litOut)).inSpace (room 1 (dec .litOut)).port.dstPtr = true) ∧
    (∃ s : State, s.Decoding ∧ s.fsm = .lenExtra ∧ s.loc.lnx = 5 ∧ (∃ o, take 5 s = .stop o) ∧
      ∃ x t, take 5 (holding 31 5 s) = .val x t ∧ x.toNat = 31) ∧
    (∃ s : State, s.Decoding ∧ s.fsm = .distExtra ∧ s.loc.dnx = 1 ∧ (∃ o, take 1 s = .stop o) ∧
      ∃ x t, take 1 (holding 1 1 s) = .val x t ∧ 6 = s.loc.dbase.toNat + x.toNat ∧ s.win.hfill.toNat = 6) ∧
    (∃ s : State, s.Decoding ∧ s.fsm = .distExtra ∧
      ∃ x t, take s.loc.dnx.toNat s = .val x t ∧ s.win.hfill.toNat < s.loc.dbase.toNat + x.toNat) ∧
    ((repeating 16).Decoding ∧ (repeating 16).loc.repsym = 16 ∧ (repeating 16).loc.i ≠ 0 ∧
      (∃ o, take 2 (repeating 16) = .stop o) ∧ (∃ x t, take 2 (holding 3 2 (repeating 16)) = .val x t) ∧
      (∃ x t, take 3 (holding 7 3 (repeating 17)) = .val x t) ∧ ∃ x t, take 7 (holding 127 7 (repeating 18)) = .val x t) ∧
    (copyFurthest.Decoding ∧ copyFurthest.fsm = .copy ∧ copyFurthest.MemOk ∧
      copyFurthest.loc.dist.toNat ≤ copyFurthest.win.hfill.toNat ∧ copyFurthest.win.hfill.toNat ≤ 32768 ∧
      copyFurthest.CursorsOk ∧ copyFurthest.port.dstEnd ≤ 2 ^ copyFurthest.par.addrW) := by
  refine ⟨by decide, ?_, ?_, ?_, ?_, by decide +kernel⟩
  · exact ⟨{ dec .lenExtra with loc := { Locals.zero with lnx := 5 } }, by decide, rfl, rfl, ⟨_, rfl⟩, _, _, rfl, by decide⟩
  · exact ⟨{ dec .distExtra with win := { st0.win with hfill := 6 }, loc := { Locals.zero with dbase := 5, dnx := 1 } },
      by decide, rfl, rfl, ⟨_, rfl⟩, _, _, rfl, by decide, rfl⟩
  · exact ⟨{ dec .distExtra with loc := { Locals.zero with dbase := 1 } }, by decide, rfl, _, _, rfl, by decide⟩
  · exact ⟨by decide, rfl, by decide, ⟨_, rfl⟩, ⟨_, _, rfl⟩, ⟨_, _, rfl⟩, _, _, rfl⟩

/-- A DECODE just written, with three ranges one byte long: the input at 16, the history at 17, the output at 64. -/
def decoding1 : State :=
  { room 1 (giving [3] (cmd 1)) with port := { (room 1 (giving [3] (cmd 1))).port with hbPtr := 17, hbLen := 1 } }

theorem decoding1_apart :
    (∀ a, decoding1.InSource a → ¬ decoding1.InOutput a) ∧
    ∀ a, decoding1.InHistoryRange a → ¬ decoding1.InSource a ∧ ¬ decoding1.InOutput a := by
  constructor <;> intro a <;>
    simp only [State.InSource, State.InOutput, State.InHistoryRange, decoding1, room, giving, List.length_cons, List.length_nil] <;>
    omega

theorem wit_DecodeStarts :
    (∃ s : State, s.disabled = true) ∧ (∃ s : State, s.disabled = false ∧ s.fsm = .done) ∧
    (decoding1.disabled = false ∧ decoding1.fsm ≠ .done ∧ decoding1.CursorsOk ∧
      (∀ a, decoding1.InSource a → ¬ decoding1.InOutput a) ∧
      ∀ a, decoding1.InHistoryRange a → ¬ decoding1.InSource a ∧ ¬ decoding1.InOutput a) :=
  ⟨⟨{ st0 with disabled := true }, rfl⟩, ⟨{ st0 with fsm := .done }, rfl, rfl⟩, rfl, by decide, by decide, decoding1_apart⟩

/-- Both sides of IllegalOperandsRefused at an overlap of one byte, of the output with the input and of the history with the input,
and neither where the ranges meet. -/
theorem wit_IllegalOperandsRefused :
    exec .decode { decoding1 with port := { decoding1.port with dstPtr := 16, dstEnd := 17 } } = .refused .illegalOperands ∧
    exec .addHistory { decoding1 with port := { decoding1.port with hbPtr := 15, hbLen := 2 } } = .refused .illegalOperands ∧
    nextAnd (exec .decode { decoding1 with port := { decoding1.port with dstPtr := 18, dstEnd := 19 } }) (fun t => t.decoding) = true ∧
    nextAnd (exec .addHistory decoding1) (fun t => t.win.hfill = 1) = true :=
  ⟨rfl, rfl, by decide +kernel, by decide +kernel⟩

theorem wit_AddHistoryAppends :
    (∃ s : State, s.disabled = true) ∧
    (∃ s : State, s.disabled = false ∧ (∀ a, s.InHistoryRange a → ¬ s.InSource a ∧ ¬ s.InOutput a) ∧
      s.port.hbPtr + s.port.hbLen ≤ 2 ^ s.par.addrW ∧ s.win.hfill.toNat ≤ 32768 ∧ s.port.hbLen = 40000) ∧
    (decoding1.disabled = false ∧ ∀ a, decoding1.InHistoryRange a → ¬ decoding1.InSource a ∧ ¬ decoding1.InOutput a) := by
  refine ⟨⟨{ st0 with disabled := true }, rfl⟩, ⟨{ st0 with port := { st0.port with hbLen := 40000 } }, rfl, ?_, by decide⟩,
    rfl, decoding1_apart.2⟩
  simp [State.InSource, State.InOutput, State.InHistoryRange, st0, State.resetWith]

theorem wit_WorkbufLen :
    (∃ s : State, s.par.Valid ∧ 2 ^ 32 - 1 = s.par.workbuf) ∧ Params.vectors.Valid ∧ Instr.reset ≠ .workbufLen :=
  ⟨⟨{ st0 with par := { par0 with workbuf := 2 ^ 32 - 1 } }, by decide, rfl⟩, ⟨by decide, Config.workbuf.isLt⟩, by decide⟩

theorem wit_TakeReadsStream :
    ((holding 0x7F 7 (giving [1, 2, 3] st0)).AccOk ∧ (holding 0x7F 7 (giving [1, 2, 3] st0)).CursorsOk ∧
      (giving [1, 2, 3] st0).port.srcEnd ≤ 2 ^ st0.par.addrW ∧ 25 ≤ (holding 0x7F 7 (giving [1, 2, 3] st0)).streamLen ∧
      (holding 0x7F 7 (giving [1, 2, 3] st0)).nbits.toNat ≤ 7) ∧
    ((holding 0xFF 24 (giving [1] st0)).AccOk ∧ (holding 0xFF 24 (giving [1] st0)).CursorsOk ∧
      32 ≤ (holding 0xFF 24 (giving [1] st0)).streamLen ∧ (holding 0xFF 24 (giving [1] st0)).nbits.toNat % 8 = 0) := by
  decide +kernel

theorem wit_ShortTakeKeepsBits :
    ((holding 1 1 (giving [1, 2] st0)).AccOk ∧ (holding 1 1 (giving [1, 2] st0)).CursorsOk ∧
      (giving [1, 2] st0).port.srcEnd ≤ 2 ^ st0.par.addrW ∧ (holding 1 1 (giving [1, 2] st0)).streamLen < 18) ∧
    ((giving [1, 2, 3] st0).AccOk ∧ (giving [1, 2, 3] st0).streamLen < 32 ∧ (giving [1, 2, 3] st0).nbits.toNat % 8 = 0) := by
  decide +kernel

/-- The three cases of the sum, and both distance exceptions. -/
theorem wit_BuildByKraftSum :
    (LensOk [1, 1, 1] ∧ 2 ^ 15 < kraftSum [1, 1, 1]) ∧
    (LensOk fixedLL ∧ kraftSum fixedLL = 2 ^ 15 ∧ (subTables fixedLL).2 ≤ 1024) ∧
    (LensOk [1] ∧ kraftSum [1] < 2 ^ 15 ∧ codeCount [1] 1 = 1 ∧ ∀ L ∈ List.range 16, 2 ≤ L → codeCount [1] L = 0) ∧
    (LensOk [0] ∧ kraftSum [0] < 2 ^ 15 ∧ ∀ L ∈ List.range 16, 1 ≤ L → codeCount [0] L = 0) ∧
    (LensOk [2] ∧ kraftSum [2] < 2 ^ 15 ∧ codeCount [2] 1 ≠ 1 ∧ codeCount [2] 2 ≠ 0) := by decide +kernel

/-- `a` in the fixed code, and the last symbol of a code with a sub-table. -/
theorem wit_LookupRoundTrip :
    (BuiltFrom par0 .ll fixedLL (tableOf .ll fixedLL) ∧ fixedLL.getD 97 0 ≠ 0 ∧
      (0xFF89 : Acc).toNat % 2 ^ fixedLL.getD 97 0 = revBits (fixedLL.getD 97 0) (codeOf fixedLL 97)) ∧
    (BuiltFrom par0 .ll longCode (tableOf .ll longCode) ∧ longCode.getD 10 0 ≠ 0 ∧
      (0x3FF : Acc).toNat % 2 ^ longCode.getD 10 0 = revBits (longCode.getD 10 0) (codeOf longCode 10)) :=
  ⟨⟨builtFrom_fixedLL _, by decide +kernel⟩, builtFrom_longCode _, by decide +kernel⟩

/-- A pattern with a code, and one with none: the degenerate distance table's 1. -/
theorem wit_LookupIsTotal :
    BuiltFrom par0 .ll fixedLL (tableOf .ll fixedLL) ∧ BuiltFrom par0 .d [1] (tableOf .d [1]) ∧
    lookup (tableOf .d [1]) 1 = (packEntry 0x08 0 0 1, 1) ∧ lookup (tableOf .d [1]) 2 ≠ (packEntry 0x08 0 0 1, 1) := by
  exact ⟨builtFrom_fixedLL _, builtFrom_oneDist, by decide +kernel⟩

/-- A code that a refill completes, a pattern with no code, and a code that the stream ends in. -/
theorem wit_DecodeSymReadsStream :
    (BuiltFrom par0 .d [1] (tableOf .d [1]) ∧ noSymbol.AccOk ∧ noSymbol.CursorsOk ∧
      noSymbol.port.srcEnd ≤ 2 ^ noSymbol.par.addrW ∧ 1 ≤ noSymbol.streamLen ∧
      ∀ y, ¬ ([1].getD y 0 ≠ 0 ∧ noSymbol.streamValue % 2 ^ [1].getD y 0 = revBits ([1].getD y 0) (codeOf [1] y))) ∧
    ((holding 0x09 5 st0).AccOk ∧ (holding 0x09 5 st0).streamLen <
      (lookup (tableOf .ll fixedLL) (BitVec.ofNat 32 (holding 0x09 5 st0).streamValue)).2) ∧
    BuiltFrom par0 .ll fixedLL (tableOf .ll fixedLL) ∧ fixedLL.getD 97 0 ≠ 0 ∧
    (holding 0x09 5 (giving [0x4C] st0)).AccOk ∧ (holding 0x09 5 (giving [0x4C] st0)).CursorsOk ∧
    (giving [0x4C] st0).port.srcEnd ≤ 2 ^ st0.par.addrW ∧
    fixedLL.getD 97 0 ≤ (holding 0x09 5 (giving [0x4C] st0)).streamLen ∧
    (holding 0x09 5 (giving [0x4C] st0)).streamValue % 2 ^ fixedLL.getD 97 0 =
      revBits (fixedLL.getD 97 0) (codeOf fixedLL 97) := by
  refine ⟨⟨builtFrom_oneDist, by decide +kernel, by decide +kernel, by decide +kernel, by decide +kernel, ?_⟩,
    by decide +kernel, builtFrom_fixedLL _, by decide +kernel⟩
  rintro (_ | y) ⟨h, h2⟩
  · exact absurd h2 (by decide +kernel)
  · simp at h

theorem wit_DecodeEncode : WellFormed (.alignPad 7 0x7F) ∧ WellFormed (.dist29 8191) := by decide

theorem wit_DynamicDecodeEncode :
    (BuiltFrom par0 .ll longCode (tableOf .ll longCode) ∧ slotAlphabet Instr.lit10.slot = some .ll ∧
      Instr.lit10.shape = .ll 10 0 ∧ longCode.getD 10 0 ≠ 0) ∧
    (BuiltFrom par0 .d fixedD (tableOf .d fixedD) ∧ slotAlphabet (Instr.dist29 8191).slot = some .d ∧
      (Instr.dist29 8191).shape = .dist 29 8191 ∧ fixedD.getD 29 0 ≠ 0) :=
  ⟨⟨builtFrom_longCode _, by decide⟩, builtFrom_fixedD _, by decide +kernel⟩

theorem wit_InstructionMemoryFrame :
    (∃ t, exec .eob st0 = .next t) ∧ (∃ t, exec .lit1 (room 1 st0) = .next t ∧ t.mem.read 64 = 1) ∧
    (∃ t, exec .lit1 (room 0 st0) = .next t) ∧ (∃ t, exec .dist0 (room 3 (matching 1 3)) = .next t) := by
  refine ⟨⟨_, rfl⟩, ?_, ?_, ?_⟩
  · obtain ⟨t, h, p⟩ := exists_next (o := exec .lit1 (room 1 st0)) (P := fun t => t.mem.read 64 = 1) (by decide +kernel)
    exact ⟨t, h, by simpa using p⟩
  · obtain ⟨t, h, -⟩ := exists_next (o := exec .lit1 (room 0 st0)) (P := fun _ => true) (by decide +kernel)
    exact ⟨t, h⟩
  · obtain ⟨t, h, -⟩ := exists_next (o := exec .dist0 (room 3 (matching 1 3))) (P := fun _ => true) (by decide +kernel)
    exact ⟨t, h⟩

theorem wit_FlagWriters :
    (Instr.eob ≠ .reset ∧ (∀ n f, Instr.eob.shape ≠ .header n f) ∧ ∃ t, exec .eob st0 = .next t) ∧
    (∃ t, exec .llInvalid286 st0 = .next t ∧ t.disabled ≠ st0.disabled) ∧
    ((∀ c, Instr.llInvalid286.shape ≠ .command c) ∧ ∃ t, exec .llInvalid286 (dec .llSym) = .next t ∧ t.busy ≠ (dec .llSym).busy) ∧
    (∃ t, exec .addHistory (cmd 2) = .next t) ∧ ∃ t, exec .decode (cmd 1) = .next t :=
  ⟨⟨by decide, fun _ _ h => (nomatch h), _, rfl⟩, ⟨_, rfl, by decide⟩, ⟨fun _ h => (nomatch h), _, rfl, by decide⟩, ⟨_, rfl⟩,
    _, rfl⟩

/-- Shared by the statements about every step: a busy engine, in a state with every invariant, whose step changes it. -/
theorem wit_steps :
    (giving [3] (dec .hdr)).Inv ∧ (giving [3] (dec .hdr)).CursorsOk ∧ (giving [3] (dec .hdr)).PortOk ∧
    (giving [3] (dec .hdr)).CountersOk ∧ (giving [3] (dec .hdr)).TablesOk ∧ (giving [3] (dec .hdr)).EntriesOk ∧
    (giving [3] (dec .hdr)).fastReady = false ∧ (giving [3] (dec .hdr)).nbits.toNat ≤ 7 ∧ ∃ t, step (giving [3] (dec .hdr)) = .next t ∧ t.fsm = .fixedInit := by
  obtain ⟨t, h, p⟩ := exists_next (o := step (giving [3] (dec .hdr))) (P := fun t => t.fsm = .fixedInit) (by decide +kernel)
  exact ⟨by decide +kernel, by decide +kernel, by decide +kernel, by decide +kernel, tablesOk_st0, entriesOk_st0, by decide, by decide, t,
    h, by simpa using p⟩

/-- All the lengths of the longest header read. -/
def lensDone : State := { dec .dynLensSym with loc := { Locals.zero with i := 316, hlit := 286, hdist := 30 } }

/-- A copy from the oldest of five bytes, with room for one of the two to come. -/
def copyOldest : State :=
  room 1
    { dec .copy with
      loc := { Locals.zero with dist := 5, rem := 2 }
      win := { st0.win with hidx := 5, hfill := 5 } }

theorem wit_StepKeepsCounters :
    (lensDone.Inv ∧ lensDone.CountersOk ∧ lensDone.EntriesOk ∧ lensDone.fsm = .dynLensSym ∧ lensDone.loc.i.toNat = 316 ∧
      ∃ t, step lensDone = .next t) ∧
    (copyOldest.Inv ∧ copyOldest.CountersOk ∧ copyOldest.EntriesOk ∧ copyOldest.fsm = .copy ∧ ∃ t, step copyOldest = .next t) := by
  obtain ⟨t, h, -⟩ := exists_next (o := step lensDone) (P := fun _ => true) (by decide +kernel)
  obtain ⟨u, k, -⟩ := exists_next (o := step copyOldest) (P := fun _ => true) (by decide +kernel)
  exact ⟨⟨by decide +kernel, by decide +kernel, entriesOk_st0, rfl, rfl, t, h⟩, by decide +kernel, by decide +kernel,
    entriesOk_st0, rfl, u, k⟩

/-- A step that puts three bytes out. -/
theorem wit_OutputIsHistory :
    (room 3 (matching 1 3)).MemOk ∧
    ∃ t, exec .dist0 (room 3 (matching 1 3)) = .next t ∧ 3 ≤ t.port.dstPtr - (room 3 (matching 1 3)).port.dstPtr := by
  obtain ⟨t, h, p⟩ := exists_next (o := exec .dist0 (room 3 (matching 1 3))) (P := fun t => t.port.dstPtr = 67) (by decide +kernel)
  have p' : t.port.dstPtr = 67 := by simpa using p
  exact ⟨by decide, t, h, by rw [p']; decide⟩

theorem wit_MemoryIsolation :
    (giving [3] (dec .hdr)).CursorsOk ∧ (giving [3] (dec .hdr)).MemOk ∧ Mem.wf [(0, 1), (16, 3)] = true ∧
    (∀ a, (giving [3] (dec .hdr)).port.srcPtr ≤ a → a < (giving [3] (dec .hdr)).port.srcEnd →
      Mem.read [(0, 1), (16, 3)] a = (giving [3] (dec .hdr)).mem.read a) ∧
    (∀ a, (giving [3] (dec .hdr)).port.hbPtr ≤ a →
      a < (giving [3] (dec .hdr)).port.hbPtr + (giving [3] (dec .hdr)).port.hbLen →
      Mem.read [(0, 1), (16, 3)] a = (giving [3] (dec .hdr)).mem.read a) ∧
    ∃ t, step (giving [3] (dec .hdr)) = .next t := by
  refine ⟨by decide, by decide, by decide, ?_, ?_, ?_⟩
  · intro a h1 h2
    have : a = 16 := by
      simp only [giving, List.length_cons, List.length_nil] at h1 h2
      omega
    subst this
    decide +kernel
  · intro a _ h
    exact absurd h (Nat.not_lt_zero a)
  · obtain ⟨t, h, -⟩ := exists_next (o := step (giving [3] (dec .hdr))) (P := fun _ => true) (by decide +kernel)
    exact ⟨t, h⟩

theorem wit_DisabledUntilReset :
    (∃ t, step (giving [7] (dec .hdr)) = .next t ∧ t.busy = false ∧ 0x10 ≤ t.port.status.code.toNat) ∧
    (∃ t, step { cmd 0 with disabled := true } = .next t ∧ t.disabled = false) ∧
    (∃ s : State, s.disabled = true ∧ s.busy = true ∧ s.decoding = false ∧ s.interleaved = false ∧ s.port.cmd = 2) := by
  refine ⟨?_, ⟨_, rfl, rfl⟩, { cmd 2 with disabled := true }, by decide⟩
  obtain ⟨t, h, p⟩ := exists_next (o := step (giving [7] (dec .hdr)))
    (P := fun t => !t.busy && decide (0x10 ≤ t.port.status.code.toNat)) (by decide +kernel)
  simp only [Bool.and_eq_true, Bool.not_eq_true', decide_eq_true_eq] at p
  exact ⟨t, h, p⟩

theorem wit_Suspensions :
    (dec .hdr).par.ThresholdsOk ∧ (∃ t, step (dec .hdr) = .next t ∧ t.busy = false ∧ t.port.status = .shortRead) ∧
    (∃ t, step (dec .litOut) = .next t ∧ t.busy = false ∧ t.port.status = .shortWrite) :=
  ⟨by decide, ⟨_, rfl, rfl, rfl⟩, _, rfl, rfl, rfl⟩

theorem wit_ResumeAfterSuspension :
    ((dec .hdr).Decoding ∧ (dec .hdr).ControlOk ∧ (dec .hdr).par.fast = false ∧ (∃ u, step (dec .hdr) = .next u ∧ u.EndedWith .shortRead) ∧
      (dec .hdr).port.srcEnd ≤ 5) ∧
    ((dec .litOut).Decoding ∧ (dec .litOut).ControlOk ∧ (∃ u, step (dec .litOut) = .next u ∧ u.EndedWith .shortWrite) ∧
      (dec .litOut).port.dstEnd ≤ 5) :=
  ⟨⟨by decide, by decide, rfl, ⟨_, rfl, rfl, rfl, rfl⟩, by decide⟩, by decide, by decide, ⟨_, rfl, rfl, rfl, rfl⟩, by decide⟩

/-- An engine with the fast variant, about to read a literal, at the least cursors that let it run. -/
def fastState : State :=
  room 258 (giving [0xFF, 0xFF, 0, 0, 0, 0] { fixedTabs (dec .llSym) with par := { par0 with fast := true } })

/-- The same, resumed with nine bits of a code of ten held. -/
def fastResumed : State := { holding 0x1FF 9 fastState with tab0 := tableOf .ll longCode }

theorem wit_FastVariantAgrees :
    (fastState.Decoding ∧ fastState.fastReady = true ∧ fastState.par.ThresholdsOk ∧ fastState.AccOk ∧
      fastState.nbits.toNat ≤ 7 ∧ fastState.port.srcEnd ≤ 2 ^ fastState.par.addrW ∧
      BuiltFrom fastState.par .ll fixedLL fastState.tab0) ∧
    (fastResumed.Decoding ∧ fastResumed.fastReady = true ∧ fastResumed.AccOk ∧
      fastResumed.nbits.toNat < (lookup fastResumed.tab0 fastResumed.bits).2 ∧
      BuiltFrom fastResumed.par .ll longCode fastResumed.tab0) :=
  ⟨⟨by decide, by decide, by decide, by decide, by decide, by decide, builtFrom_fixedLL _⟩, by decide, by decide, by decide,
    by decide +kernel, builtFrom_longCode _⟩

/-- The fast pass puts out the byte of nine 1 bits, 255, and gives the bytes it read ahead back. -/
theorem test_fast_pass :
    nextAnd (step fastState) (fun t => t.mem.read 64 = 0xFF && t.port.srcPtr = 18 && t.nbits = 7 && t.bits = 0x7F) = true := by
  decide +kernel

theorem wit_DecodePassNeverStops :
    (dec .hdr).Decoding ∧ (dec .hdr).CursorsOk ∧ (dec .hdr).port.srcEnd ≤ 2 ^ (dec .hdr).par.addrW ∧
    (dec .hdr).port.dstEnd ≤ 2 ^ (dec .hdr).par.addrW := by decide

end Sys2Proof.Tests
end

section
/-! PROOF. Moves that stay inside the engine: what they answer does not depend on host memory or on the interface registers, and
they change neither, STATUS aside. Said once, move by move,
so that a statement about a whole step looks only at the reads and
at the output. -/

namespace Sys2Proof.Machine

/-- The same engine beside another host memory and other interface registers, STATUS aside. -/
def State.beside (s : State) (m : Mem) (p : Port) : State := { s with mem := m, port := { p with status := s.port.status } }

/-- An update inside the engine. -/
structure Local (f : State → State) : Prop where
  beside : ∀ s m p, f (s.beside m p) = (f s).beside m p
  par : ∀ s, (f s).par = s.par
  busy : ∀ s, (f s).busy = s.busy

/-- `op` takes `s` to `t` without a look at its surroundings; a command it ends is not suspended. -/
structure InnerTo (op : State → Result) (s t : State) : Prop where
  answer : op s = .next t
  par : t.par = s.par
  ends : t.busy = s.busy ∨ t.port.status ≠ .shortRead ∧ t.port.status ≠ .shortWrite
  beside : ∀ m p, op (s.beside m p) = .next (t.beside m p)

/-- A move inside the engine. -/
def Inner (op : State → Result) : Prop := ∀ s, ∃ t, InnerTo op s t

/-- `t` has the surroundings of `s`, but for STATUS and the input cursor. -/
structure Still (s t : State) : Prop where
  par : t.par = s.par
  mem : t.mem = s.mem
  port : t.port = { s.port with status := t.port.status, srcPtr := t.port.srcPtr }

theorem Still.srcEnd {s t : State} (h : Still s t) : t.port.srcEnd = s.port.srcEnd := by rw [h.port]

/-- A move inside the engine leaves its surroundings alone, the input cursor too. -/
theorem InnerTo.unmoved {op : State → Result} {s t : State} (h : InnerTo op s t) :
    t.mem = s.mem ∧ t.port = { s.port with status := t.port.status } := by
  have ht : t = t.beside s.mem s.port := Host.Outcome.next.inj (h.answer.symm.trans (h.beside s.mem s.port))
  exact ⟨(congrArg State.mem ht :), (congrArg State.port ht :)⟩

theorem InnerTo.still {op : State → Result} {s t : State} (h : InnerTo op s t) : Still s t :=
  ⟨h.par, h.unmoved.1, by rw [h.unmoved.2]⟩

theorem BitFrame.still {s t : State} (h : BitFrame s t) : Still s t := by
  have hs := h.same
  exact ⟨by rw [hs], by rw [hs], by rw [hs]⟩

/-! ### Building blocks -/

theorem Local.comp {f g : State → State} (hf : Local f) (hg : Local g) : Local (fun s => f (g s)) :=
  ⟨fun s m p => by rw [hg.beside, hf.beside], fun s => (hf.par _).trans (hg.par s), fun s => (hf.busy _).trans (hg.busy s)⟩

theorem local_setLen (i : Nat) (v : BitVec 4) : Local (·.setLen i v) := ⟨fun _ _ _ => rfl, fun _ => rfl, fun _ => rfl⟩

theorem local_fillLens (i : Nat) (v : BitVec 4) (n : Nat) : Local (·.fillLens i v n) := by
  induction n generalizing i with
  | zero => exact ⟨fun _ _ _ => rfl, fun _ => rfl, fun _ => rfl⟩
  | succ n ih => exact (ih (i + 1)).comp (local_setLen i v)

theorem local_clearTail (ks : List Nat) : Local (·.clearTail ks) := by
  induction ks with
  | nil => exact ⟨fun _ _ _ => rfl, fun _ => rfl, fun _ => rfl⟩
  | cons k ks ih => exact ih.comp (local_setLen k 0)

theorem Inner.next {f : State → State} (hf : Local f) : Inner (fun s => .next (f s)) :=
  fun s => ⟨f s, rfl, hf.par s, .inl (hf.busy s), fun m p => by rw [hf.beside]⟩

/-- An error. -/
theorem Inner.raise {e : Status} (he : e ≠ .shortRead ∧ e ≠ .shortWrite) : Inner (fun s => .next (s.raise e)) :=
  fun s => ⟨s.raise e, rfl, rfl, .inr he, fun _ _ => rfl⟩

theorem Inner.comp {op : State → Result} {f : State → State} (h : Inner op) (hf : Local f) : Inner (fun s => op (f s)) := by
  intro s
  obtain ⟨t, ht⟩ := h (f s)
  refine ⟨t, ht.answer, ht.par.trans (hf.par s), ?_, fun m p => ?_⟩
  · rw [← hf.busy s]
    exact ht.ends
  · rw [hf.beside]
    exact ht.beside m p

/-- A move chosen by a test that does not look outside. -/
theorem Inner.ite {c : State → Prop} {d : ∀ s, Decidable (c s)} {op₁ op₂ : State → Result}
    (hc : ∀ s m p, c (s.beside m p) ↔ c s) (h₁ : Inner op₁) (h₂ : Inner op₂) :
    Inner (fun s => if c s then op₁ s else op₂ s) := by
  intro s
  by_cases h : c s
  · obtain ⟨t, ht⟩ := h₁ s
    exact ⟨t, by simpa [h] using ht.answer, ht.par, ht.ends, fun m p => by simpa [hc, h] using ht.beside m p⟩
  · obtain ⟨t, ht⟩ := h₂ s
    exact ⟨t, by simpa [h] using ht.answer, ht.par, ht.ends, fun m p => by simpa [hc, h] using ht.beside m p⟩

theorem buildError_status (e : BuildError) : e.status ≠ .shortRead ∧ e.status ≠ .shortWrite := by
  cases e <;> decide

/-- A build into `TAB[0]`, of lengths found inside the engine (R152). -/
theorem Inner.buildTab0 {A : Alphabet} {lens : State → List Nat} {k : State → Result}
    (hl : ∀ s m p, lens (s.beside m p) = lens s) (hk : Inner k) : Inner (fun s => buildTab0 A (lens s) s k) := by
  intro s
  cases hb : build s.par A (lens s) with
  | ok tab =>
    obtain ⟨t, ht⟩ := hk { s with tab0 := tab }
    refine ⟨t, by simpa [Machine.buildTab0, hb] using ht.answer, ht.par, ht.ends, fun m p => ?_⟩
    have hb' : build (s.beside m p).par A (lens (s.beside m p)) = .ok tab := by rw [hl]; exact hb
    simp only [Machine.buildTab0, hb']
    exact ht.beside m p
  | error e =>
    refine ⟨s.raise e.status, by simp [Machine.buildTab0, hb], rfl, .inr (buildError_status e), fun m p => ?_⟩
    have hb' : build (s.beside m p).par A (lens (s.beside m p)) = .error e := by rw [hl]; exact hb
    simp only [Machine.buildTab0, hb']
    rfl

/-- A build into `TAB[1]` (R152). -/
theorem Inner.buildTab1 {A : Alphabet} {lens : State → List Nat} {k : State → Result}
    (hl : ∀ s m p, lens (s.beside m p) = lens s) (hk : Inner k) : Inner (fun s => buildTab1 A (lens s) s k) := by
  intro s
  cases hb : build s.par A (lens s) with
  | ok tab =>
    obtain ⟨t, ht⟩ := hk { s with tab1 := tab }
    refine ⟨t, by simpa [Machine.buildTab1, hb] using ht.answer, ht.par, ht.ends, fun m p => ?_⟩
    have hb' : build (s.beside m p).par A (lens (s.beside m p)) = .ok tab := by rw [hl]; exact hb
    simp only [Machine.buildTab1, hb']
    exact ht.beside m p
  | error e =>
    refine ⟨s.raise e.status, by simp [Machine.buildTab1, hb], rfl, .inr (buildError_status e), fun m p => ?_⟩
    have hb' : build (s.beside m p).par A (lens (s.beside m p)) = .error e := by rw [hl]; exact hb
    simp only [Machine.buildTab1, hb']
    rfl

/-! ### The moves -/

theorem inner_alignToStored : Inner alignToStored :=
  .ite (fun _ _ _ => .rfl) (.raise (by decide)) (.next ⟨fun _ _ _ => rfl, fun _ => rfl, fun _ => rfl⟩)

theorem inner_fixedInit : Inner fixedInit :=
  .comp (f := fun s => { s with lens := fixedLens })
    (op := fun s => buildTab0 .ll (s.lensFrom 0 288) s fun s2 =>
      buildTab1 .d (s2.lensFrom 288 32) s2 fun s3 => .next { s3 with fsm := .llSym })
    (.buildTab0 (fun _ _ _ => rfl) (.buildTab1 (fun _ _ _ => rfl) (.next ⟨fun _ _ _ => rfl, fun _ => rfl, fun _ => rfl⟩)))
    ⟨fun _ _ _ => rfl, fun _ => rfl, fun _ => rfl⟩

theorem inner_finish_ok : Inner (fun s => .next (s.finish .ok)) :=
  fun s => ⟨s.finish .ok, rfl, rfl, .inr (by simp), fun _ _ => rfl⟩

theorem inner_blockEnd : Inner blockEnd :=
  .ite (fun _ _ _ => .rfl)
    (.comp (f := fun s => { s with fsm := .done }) inner_finish_ok ⟨fun _ _ _ => rfl, fun _ => rfl, fun _ => rfl⟩)
    (.next ⟨fun _ _ _ => rfl, fun _ => rfl, fun _ => rfl⟩)

theorem inner_execStoredLen (len nlen : BitVec 16) : Inner (execStoredLen len nlen) :=
  .ite (fun _ _ _ => .rfl) (.raise (by decide)) (.next ⟨fun _ _ _ => rfl, fun _ => rfl, fun _ => rfl⟩)

theorem inner_execDynHdr (hlit hdist : BitVec 5) (hclen : BitVec 4) : Inner (execDynHdr hlit hdist hclen) :=
  .ite (fun _ _ _ => .rfl)
    (.comp (f := fun s => { s with
        loc := { s.loc with hlit := hlitOf hlit, hdist := hdistOf hdist, hclen := hclenOf hclen } })
      (.raise (by decide)) ⟨fun _ _ _ => rfl, fun _ => rfl, fun _ => rfl⟩)
    (.next ⟨fun _ _ _ => rfl, fun _ => rfl, fun _ => rfl⟩)

theorem inner_execCll (l : BitVec 3) : Inner (execCll l) := .next ⟨fun _ _ _ => rfl, fun _ => rfl, fun _ => rfl⟩

theorem inner_cllDone : Inner cllDone :=
  .comp (f := fun s => s.clearTail (clOrder.drop s.loc.hclen.toNat))
    (op := fun s => buildTab0 .cl (s.lensFrom 0 19) s fun s2 =>
      .next { s2 with loc := { s2.loc with i := 0 }, fsm := .dynLensSym, inLoop := false })
    (.buildTab0 (fun _ _ _ => rfl) (.next ⟨fun _ _ _ => rfl, fun _ => rfl, fun _ => rfl⟩))
    ⟨fun s => (local_clearTail (clOrder.drop s.loc.hclen.toNat)).beside s,
      fun s => (local_clearTail (clOrder.drop s.loc.hclen.toNat)).par s,
      fun s => (local_clearTail (clOrder.drop s.loc.hclen.toNat)).busy s⟩

theorem inner_codeLength (n : BitVec 4) : Inner (codeLength n) := .next ⟨fun _ _ _ => rfl, fun _ => rfl, fun _ => rfl⟩

theorem inner_dynBuild : Inner dynBuild :=
  .ite (fun _ _ _ => .rfl) (.raise (by decide))
    (.buildTab0 (fun _ _ _ => rfl) (.buildTab1 (fun _ _ _ => rfl) (.next ⟨fun _ _ _ => rfl, fun _ => rfl, fun _ => rfl⟩)))

theorem inner_finishLength (x : Nat) : Inner (finishLength x) := .next ⟨fun _ _ _ => rfl, fun _ => rfl, fun _ => rfl⟩

theorem inner_badCode : Inner badCode := .raise (by decide)

/-- What follows the byte put out in LIT_OUT (R262). -/
theorem local_toLLSym : Local (fun s => { s with fsm := .llSym }) := ⟨fun _ _ _ => rfl, fun _ => rfl, fun _ => rfl⟩

/-- What follows the byte put out in STORED_COPY (R195). -/
theorem local_countByte : Local (fun s => { s with loc := { s.loc with rem := s.loc.rem - 1 } }) :=
  ⟨fun _ _ _ => rfl, fun _ => rfl, fun _ => rfl⟩

theorem local_latchRepeat (y : BitVec 5) : Local (·.latchRepeat y) := ⟨fun _ _ _ => rfl, fun _ => rfl, fun _ => rfl⟩

theorem local_latchLen (b : BitVec 9) (n : BitVec 3) : Local (·.latchLen b n) :=
  ⟨fun _ _ _ => rfl, fun _ => rfl, fun _ => rfl⟩

theorem local_latchDist (b : BitVec 15) (n : BitVec 4) : Local (·.latchDist b n) :=
  ⟨fun _ _ _ => rfl, fun _ => rfl, fun _ => rfl⟩

theorem local_latchHeader (t : BitVec 2) (f : Bool) : Local (·.latchHeader t f) :=
  ⟨fun _ _ _ => rfl, fun _ => rfl, fun _ => rfl⟩

theorem inner_applyRepeat (x : Nat) : Inner (applyRepeat x) :=
  .ite (fun _ _ _ => .rfl) (.raise (by decide)) (.next
    ⟨fun s m p => congrArg (fun u : State =>
        { u with
          loc := { u.loc with i := u.loc.i + BitVec.ofNat 9 (repeatCount s.loc.repsym.toNat x) }, fsm := .dynLensSym })
        ((local_fillLens s.loc.i.toNat _ _).beside s m p),
      fun s => (local_fillLens s.loc.i.toNat _ _).par s, fun s => (local_fillLens s.loc.i.toNat _ _).busy s⟩)

theorem inner_lengthSymbol (b : BitVec 9) (n : BitVec 3) (x : Nat) : Inner (lengthSymbol b n x) :=
  .comp (f := (·.latchLen b n)) (inner_finishLength x) (local_latchLen b n)

theorem inner_endOfBlock : Inner endOfBlock := .next ⟨fun _ _ _ => rfl, fun _ => rfl, fun _ => rfl⟩

/-- The instructions that read nothing and put nothing out: all but the stored bytes, the literals, the distances and the
commands. -/
def Shape.inside : Shape → Prop
  | .storedByte _ => False
  | .ll n _ => 256 ≤ n
  | .dist n _ => 30 ≤ n
  | .command _ => False
  | _ => True

theorem inner_shapeMeaning {h : Shape} (hi : Shape.inside h) : Inner (shapeMeaning h) := by
  cases h with
  | header t f =>
    exact .ite (fun _ _ _ => .rfl) (.comp inner_alignToStored (local_latchHeader 0 f))
      (.ite (fun _ _ _ => .rfl) (.next ⟨fun _ _ _ => rfl, fun _ => rfl, fun _ => rfl⟩)
        (.ite (fun _ _ _ => .rfl) (.next ⟨fun _ _ _ => rfl, fun _ => rfl, fun _ => rfl⟩)
          (.comp (f := (·.latchHeader 3 f)) (.raise (e := .badBlockType) (by decide)) (local_latchHeader 3 f))))
  | pad n p => exact inner_alignToStored
  | storedLen len nlen => exact inner_execStoredLen len nlen
  | storedByte b => exact hi.elim
  | dynHdr hlit hdist hclen => exact inner_execDynHdr hlit hdist hclen
  | cll l => exact inner_execCll l
  | cl n x =>
    exact .ite (fun _ _ _ => .rfl) (inner_codeLength _)
      (.ite (fun _ _ _ => .rfl) (.raise (by decide)) (.comp (inner_applyRepeat x) (local_latchRepeat _)))
  | ll n x =>
    have hn : ¬ n < 256 := Nat.not_lt.mpr hi
    unfold shapeMeaning
    simp only [if_neg hn]
    exact .ite (fun _ _ _ => .rfl) inner_endOfBlock (.ite (fun _ _ _ => .rfl) (inner_lengthSymbol _ _ x) inner_badCode)
  | dist n x =>
    have hn : ¬ n < 30 := Nat.not_lt.mpr hi
    unfold shapeMeaning
    simp only [if_neg hn]
    exact inner_badCode
  | command c => exact hi.elim

end Sys2Proof.Machine
end
section
/-! PROOF. What a step may do to the interface registers and to host memory (R40, R41, R71): the cursors advance inside their ranges,
STATUS and the two workbuf answers are written, and only the output bytes advanced over change. A preorder,
met move by move. -/

namespace Sys2Proof.Machine

/-- From `s` to `t` the engine has only advanced. -/
structure Advances (s t : State) : Prop where
  par : t.par = s.par
  port : t.port =
    { s.port with
      status := t.port.status, srcPtr := t.port.srcPtr, dstPtr := t.port.dstPtr,
      wbMin := t.port.wbMin, wbMax := t.port.wbMax }
  src : s.port.srcPtr ≤ s.port.srcEnd → t.port.srcPtr ≤ s.port.srcEnd
  dst : s.port.dstPtr ≤ s.port.dstEnd → t.port.dstPtr ≤ s.port.dstEnd
  out : s.port.dstPtr ≤ t.port.dstPtr
  workbuf : s.port.wbMin < 2 ^ s.par.addrW ∧ s.port.wbMax < 2 ^ s.par.addrW →
    t.port.wbMin < 2 ^ s.par.addrW ∧ t.port.wbMax < 2 ^ s.par.addrW
  mem : ∀ a, a < s.port.dstPtr ∨ t.port.dstPtr ≤ a → t.mem.read a = s.mem.read a

/-- Every next state of `o` has only advanced from `s`. -/
def AdvancesTo (s : State) (o : Result) : Prop := ∀ t, o = .next t → Advances s t

theorem Advances.srcEnd {s t : State} (h : Advances s t) : t.port.srcEnd = s.port.srcEnd := by rw [h.port]

theorem Advances.dstEnd {s t : State} (h : Advances s t) : t.port.dstEnd = s.port.dstEnd := by rw [h.port]

/-- With its surroundings as they were, and the input cursor still in its range. -/
theorem Advances.of_still {s t : State} (h : Still s t)
    (hsrc : s.port.srcPtr ≤ s.port.srcEnd → t.port.srcPtr ≤ s.port.srcEnd) : Advances s t := by
  have hd : t.port.dstPtr = s.port.dstPtr := by rw [h.port]
  refine ⟨h.par, ?_, hsrc, fun hs => hd ▸ hs, hd.ge, fun hw => ?_, fun _ _ => by rw [h.mem]⟩
  · rw [h.port]
  · rw [h.port]
    exact hw

theorem Advances.refl (s : State) : Advances s s := .of_still ⟨rfl, rfl, rfl⟩ id

theorem Advances.trans {s t u : State} (h : Advances s t) (k : Advances t u) : Advances s u := by
  have hsrc := h.srcEnd
  have hdst := h.dstEnd
  refine ⟨k.par.trans h.par, ?_, fun hs => hsrc ▸ k.src (hsrc.symm ▸ h.src hs),
    fun hs => hdst ▸ k.dst (hdst.symm ▸ h.dst hs),
    h.out.trans k.out, fun hw => h.par ▸ k.workbuf (h.par.symm ▸ h.workbuf hw), fun a ha => ?_⟩
  · rw [k.port, h.port]
  · have hst := h.out
    have htu := k.out
    rw [k.mem a (by omega), h.mem a (by omega)]

theorem Advances.cursorsOk {s t : State} (h : Advances s t) (hs : s.CursorsOk) : t.CursorsOk :=
  ⟨h.srcEnd ▸ h.src hs.1, h.dstEnd ▸ h.dst hs.2⟩

theorem Advances.portOk {s t : State} (h : Advances s t) (hs : s.CursorsOk) (hp : s.PortOk) : t.PortOk := by
  obtain ⟨-, hse, -, hde, hwp, hwl, hhp, hhl, hmin, hmax⟩ := hp
  have hw := h.workbuf ⟨hmin, hmax⟩
  unfold State.PortOk
  rw [h.par, h.port]
  exact ⟨(h.src hs.1).trans_lt hse, hse, (h.dst hs.2).trans_lt hde, hde, hwp, hwl, hhp, hhl, hw⟩

/-! ### Endings, reads and moves inside the engine -/

theorem advances_finish (st : Status) (s : State) : Advances s (s.finish st) := .of_still ⟨rfl, rfl, rfl⟩ id

theorem advances_raise (e : Status) (s : State) : Advances s (s.raise e) := .of_still ⟨rfl, rfl, rfl⟩ id

theorem advances_inputExhausted (s : State) : Advances s s.inputExhausted := by
  unfold State.inputExhausted
  split
  · exact advances_raise _ s
  · exact advances_finish _ s

theorem InnerTo.advances {op : State → Result} {s t : State} (h : InnerTo op s t) : Advances s t :=
  .of_still h.still fun hs => by
    rw [h.unmoved.2]
    exact hs

theorem Inner.advancesTo {op : State → Result} (h : Inner op) (s : State) : AdvancesTo s (op s) := by
  intro t ht
  obtain ⟨u, hu⟩ := h s
  obtain rfl : t = u := Host.Outcome.next.inj (ht.symm.trans hu.answer)
  exact hu.advances

theorem Local.advances {f : State → State} (h : Local f) (s : State) : Advances s (f s) :=
  (Inner.next h).advancesTo s _ rfl

theorem BitFrame.advances {s t : State} (h : BitFrame s t) : Advances s t := .of_still h.still h.inside

theorem ReadStop.advancesTo {s : State} {o : Result} (h : ReadStop s o) : AdvancesTo s o := by
  rintro u rfl
  cases h with
  | exhausted t ht _ => exact ht.advances.trans (advances_inputExhausted t)
  | bitCount t ht => exact ht.advances.trans (advances_raise _ t)
  | empty t ht => exact ht.advances.trans (advances_raise _ t)

theorem AdvancesTo.after {s t : State} {o : Result} (k : AdvancesTo t o) (h : Advances s t) : AdvancesTo s o :=
  fun u hu => h.trans (k u hu)

theorem advancesTo_next {s t : State} (h : Advances s t) : AdvancesTo s (.next t) :=
  fun _ ht => Host.Outcome.next.inj ht ▸ h

theorem advancesTo_fault {s : State} (f : Fault) : AdvancesTo s (.fault f) := fun _ h => nomatch h

/-! ### Output -/

theorem advances_emitted {s : State} (h : s.port.dstPtr ≠ s.port.dstEnd) (b : Byte) : Advances s (s.emitted b) :=
  ⟨rfl, rfl, id, fun hs => Nat.lt_of_le_of_ne hs h, Nat.le_succ _, id, fun a ha => Mem.read_write_ne b (by
    simp only [State.emitted_port] at ha
    omega)⟩

theorem advancesTo_emit {s : State} (h : s.port.dstPtr ≠ s.port.dstEnd) {b : Byte} {f : State → State} (hf : Local f) :
    AdvancesTo s (andThen (emit b s) fun t => .next (f t)) := by
  rcases emit_cases b s with ⟨-, he⟩ | ⟨-, he⟩ <;> rw [he]
  · exact advancesTo_next ((advances_emitted h b).trans (hf.advances _))
  · exact advancesTo_fault _

theorem advancesTo_litOut (s : State) : AdvancesTo s (litOut s) := by
  unfold litOut
  split
  · exact advancesTo_next (advances_finish _ s)
  · exact advancesTo_emit ‹_› local_toLLSym

theorem advancesTo_literal (b : Byte) (s : State) : AdvancesTo s (literal b s) :=
  (advancesTo_litOut _).after (.of_still ⟨rfl, rfl, rfl⟩ id)

theorem advancesTo_execStoredByte (b : Byte) (s : State) : AdvancesTo s (execStoredByte b s) := by
  unfold execStoredByte
  split
  · exact advancesTo_next (advances_finish _ s)
  · exact advancesTo_emit ‹_› local_countByte

theorem advancesTo_copyRun (s : State) : AdvancesTo s (copyRun s) := fun t =>
  copyLoop_induct (P := Advances s) (Q := Advances s) (fun _ h => h.trans (.of_still ⟨rfl, rfl, rfl⟩ id))
    (fun u h _ => h.trans (advances_finish _ u))
    (fun u h hd => (h.trans (advances_emitted hd (u.win.histAt u.loc.dist.toNat))).trans (.of_still ⟨rfl, rfl, rfl⟩ id))
    _ s t (.refl s)

theorem advancesTo_finishDist (x : Nat) (s : State) : AdvancesTo s (finishDist x s) := by
  unfold finishDist
  dsimp only
  split
  · exact advancesTo_next (.of_still ⟨rfl, rfl, rfl⟩ id)
  · exact (advancesTo_copyRun _).after (.of_still ⟨rfl, rfl, rfl⟩ id)

/-! ### Commands -/

theorem advancesTo_execAddHistory (s : State) : AdvancesTo s (execAddHistory s) := by
  unfold execAddHistory
  split
  · exact advancesTo_next (advances_finish _ s)
  split
  · cases ha : addBytes s.port.hbLen s.port.hbPtr s with
    | next u =>
      have hu := addBytes_frame _ _ _ _ ha
      exact advancesTo_next (hu ▸ .of_still ⟨rfl, rfl, rfl⟩ id)
    | fault f => exact advancesTo_fault f
    | refused r => exact fun _ h => nomatch h
  · exact fun _ h => nomatch h

theorem advancesTo_execDecode (s : State) : AdvancesTo s (execDecode s) := by
  unfold execDecode
  split
  · exact advancesTo_next (advances_finish _ s)
  split
  · exact advancesTo_next (advances_finish _ s)
  split
  · exact advancesTo_next (.of_still ⟨rfl, rfl, rfl⟩ id)
  · exact fun _ h => nomatch h

theorem advancesTo_command (c : Nat) (s : State) : AdvancesTo s (shapeMeaning (.command c) s) := by
  unfold shapeMeaning
  dsimp only
  split
  · exact advancesTo_next ⟨rfl, rfl, id, id, Nat.le_refl _, fun _ => ⟨Nat.two_pow_pos _, Nat.two_pow_pos _⟩, fun _ _ => rfl⟩
  split
  · exact advancesTo_execDecode s
  split
  · exact advancesTo_execAddHistory s
  · have hw : s.workbufValue < 2 ^ s.par.addrW := Nat.mod_lt _ (Nat.two_pow_pos _)
    exact advancesTo_next ⟨rfl, rfl, id, id, Nat.le_refl _, fun _ => ⟨hw, hw⟩, fun _ _ => rfl⟩

/-- Every instruction only advances. -/
theorem advancesTo_exec (i : Instr) (s : State) : AdvancesTo s (exec i s) := by
  rw [exec_eq_meaning]
  by_cases hi : Shape.inside i.shape
  · exact (inner_shapeMeaning hi).advancesTo s
  cases hsh : i.shape with
  | storedByte b => exact advancesTo_execStoredByte b s
  | ll n x =>
    rw [hsh] at hi
    rw [shapeMeaning, if_pos (Nat.not_le.mp hi)]
    exact advancesTo_literal _ s
  | dist n x =>
    rw [hsh] at hi
    rw [shapeMeaning, if_pos (Nat.not_le.mp hi)]
    exact (advancesTo_finishDist x _).after (.of_still ⟨rfl, rfl, rfl⟩ id)
  | command c => exact advancesTo_command c s
  | _ =>
    rw [hsh] at hi
    exact (hi trivial).elim

/-! ### Fetch, pass and step -/

/-- What is fetched has only advanced from `s`. -/
def Fetched.AdvancedFrom (s : State) : Fetched → Prop
  | .instr _ t => Advances s t
  | .engine o => AdvancesTo s o

theorem advancedFrom_ofInstr {s t : State} {i : Option Instr} {o : Result} (ht : Advances s t) (ho : AdvancesTo t o) :
    (Fetched.ofInstr i t o).AdvancedFrom s := by
  cases i with
  | some i => exact ht
  | none => exact ho.after ht

theorem Fetched.AdvancedFrom.after {s t : State} {F : Fetched} (k : F.AdvancedFrom t) (h : Advances s t) :
    F.AdvancedFrom s := by
  cases F with
  | instr i u => exact h.trans k
  | engine o => exact AdvancesTo.after k h

/-- A read, and what is fetched behind it. -/
theorem advancedFrom_fetch {α : Type} {s : State} {r : Res α} {k : α → State → Fetched}
    (hr : (∀ a t, r = .val a t → BitFrame s t) ∧ ∀ o, r = .stop o → ReadStop s o)
    (hk : ∀ a t, Advances s t → (k a t).AdvancedFrom s) : (r.fetch k).AdvancedFrom s := by
  cases r with
  | val a t => exact hk a t (hr.1 a t rfl).advances
  | stop o => exact (hr.2 o rfl).advancesTo

/-- `Take` moves the accumulator and the input cursor, or stops as a read does. -/
theorem take_frame {n : Nat} (hn : n ≤ 32) (s : State) :
    (∀ x t, take n s = .val x t → BitFrame s t) ∧ ∀ o, take n s = .stop o → ReadStop s o := by
  rcases take_spec hn s with ⟨t, ht, -, hf, -⟩ | ⟨o, ho, hs⟩
  · rw [ht]
    exact ⟨fun x u h => (Res.val.inj h).2 ▸ hf, fun _ h => nomatch h⟩
  · rw [ho]
    exact ⟨fun _ _ h => (nomatch h), fun _ h => Res.stop.inj h ▸ hs⟩

/-- `DecodeSym` moves the accumulator and the input cursor, or stops as a read does. -/
theorem decodeSym_frame (tab : Table) (s : State) :
    (∀ y t, decodeSym tab s = .val y t → BitFrame s t) ∧ ∀ o, decodeSym tab s = .stop o → ReadStop s o := by
  rcases decodeSym_spec tab s with ⟨y, t, ht, hf, -⟩ | ⟨o, ho, hs⟩
  · rw [ht]
    exact ⟨fun x u h => (Res.val.inj h).2 ▸ hf, fun _ h => nomatch h⟩
  · rw [ho]
    exact ⟨fun _ _ h => (nomatch h), fun _ h => Res.stop.inj h ▸ hs⟩

theorem repeatExtra_le (sym : Nat) : repeatExtra sym ≤ 7 := by
  unfold repeatExtra
  repeat' split
  all_goals omega

theorem advancedFrom_fetchStored (s : State) : (fetchStored s).AdvancedFrom s := by
  unfold fetchStored
  split
  · exact advancesTo_next (.of_still ⟨rfl, rfl, rfl⟩ id)
  split
  · exact advancesTo_next (advances_finish _ s)
  split
  · exact advancesTo_next (advances_inputExhausted s)
  split
  · exact .of_still ⟨rfl, rfl, rfl⟩ fun hs => Nat.lt_of_le_of_ne hs ‹_›
  · exact advancesTo_fault _

theorem advancedFrom_fetchCL (s : State) : (fetchCL s).AdvancedFrom s := by
  unfold fetchCL
  split
  · exact advancesTo_next (.of_still ⟨rfl, rfl, rfl⟩ id)
  refine advancedFrom_fetch (decodeSym_frame _ s) fun y t ht => ?_
  dsimp only
  split
  · exact advancesTo_next (ht.trans (advances_raise _ t))
  split
  · exact advancedFrom_ofInstr ht (advancesTo_next (advances_raise _ t))
  · have hl := ht.trans ((local_latchRepeat (BitVec.ofNat 5 (entryPayload y.entry).toNat)).advances t)
    refine (advancedFrom_fetch (take_frame (by have := repeatExtra_le (entryPayload y.entry).toNat; omega) _)
      fun x u hu => ?_).after hl
    exact advancedFrom_ofInstr hu (advancesTo_next (advances_raise _ u))

theorem advancedFrom_resumeRepeat (s : State) : (resumeRepeat s).AdvancedFrom s := by
  unfold resumeRepeat
  split
  · exact advancesTo_next (advances_raise _ s)
  · exact advancedFrom_fetch (take_frame (by have := repeatExtra_le s.loc.repsym.toNat; omega) s)
      fun x t ht => ((inner_applyRepeat x.toNat).advancesTo t).after ht

theorem advancedFrom_fetchLL (s : State) : (fetchLL s).AdvancedFrom s := by
  unfold fetchLL
  refine advancedFrom_fetch (decodeSym_frame _ s) fun y t ht => ?_
  split
  · exact advancedFrom_ofInstr ht (advancesTo_next (advances_raise _ t))
  · exact ht
  · refine (advancedFrom_fetch (take_frame (by omega) _) fun x u hu => ?_).after (ht.trans ((local_latchLen _ _).advances t))
    exact advancedFrom_ofInstr hu ((inner_finishLength x.toNat).advancesTo u)
  · exact advancedFrom_ofInstr ht (inner_badCode.advancesTo t)
  · exact advancesTo_next (ht.trans (advances_raise _ t))

theorem advancedFrom_fetchDist (s : State) : (fetchDist s).AdvancedFrom s := by
  unfold fetchDist
  refine advancedFrom_fetch (decodeSym_frame _ s) fun y t ht => ?_
  split
  · refine (advancedFrom_fetch (take_frame (by omega) _) fun x u hu => ?_).after
      (ht.trans ((local_latchDist _ _).advances t))
    exact advancedFrom_ofInstr hu (advancesTo_finishDist x.toNat u)
  · exact advancedFrom_ofInstr ht (inner_badCode.advancesTo t)
  · exact advancesTo_next (ht.trans (advances_raise _ t))

theorem advancedFrom_fetchCll (s : State) : (fetchCll s).AdvancedFrom s := by
  unfold fetchCll
  split
  · exact advancedFrom_fetch (take_frame (by omega) s) fun v t ht => ht.trans (.of_still ⟨rfl, rfl, rfl⟩ id)
  · exact inner_cllDone.advancesTo s

theorem advancedFrom_fetchElement (s : State) : (fetchElement s).AdvancedFrom s := by
  unfold fetchElement
  split
  · exact advancedFrom_fetch (take_frame (by omega) s) fun _ _ ht => ht
  · exact advancedFrom_fetch (take_frame (by omega) s) fun _ _ ht => ht
  · exact advancedFrom_fetchStored s
  · exact inner_fixedInit.advancesTo s
  · exact advancedFrom_fetch (take_frame (by omega) s) fun _ _ ht => ht
  · exact advancedFrom_fetchCll s
  · exact advancedFrom_fetchCL s
  · exact advancedFrom_resumeRepeat s
  · exact inner_dynBuild.advancesTo s
  · exact advancedFrom_fetchLL s
  · exact advancesTo_litOut s
  · exact advancedFrom_fetch (take_frame (by omega) s) fun x t ht => ((inner_finishLength x.toNat).advancesTo t).after ht
  · exact advancedFrom_fetchDist s
  · exact advancedFrom_fetch (take_frame (by omega) s) fun x t ht => (advancesTo_finishDist x.toNat t).after ht
  · exact advancesTo_copyRun s
  · exact inner_blockEnd.advancesTo s
  · exact advancesTo_next (advances_finish _ s)

/-! ### The fast variant, the step -/

theorem advances_refilled {s : State} (h : s.port.srcPtr < s.port.srcEnd) : Advances s s.refilled :=
  .of_still ⟨rfl, rfl, rfl⟩ fun _ => h

theorem advances_readAheadLoop (k : Nat) (s : State) : Advances s (readAheadLoop k s) := by
  induction k generalizing s with
  | zero => exact .refl s
  | succ k ih =>
    rw [readAheadLoop]
    split
    next h => exact (advances_refilled h.2.1).trans (ih _)
    next => exact .refl s

theorem advances_giveBack (s : State) : Advances s s.giveBack := .of_still ⟨rfl, rfl, rfl⟩ fun h => (Nat.sub_le _ _).trans h

theorem advancedFrom_giveBack {s : State} {F : Fetched} (h : F.AdvancedFrom s) : F.giveBack.AdvancedFrom s := by
  cases F with
  | instr i t => exact Advances.trans h (advances_giveBack t)
  | engine o =>
    cases o with
    | next t => exact advancesTo_next ((h t rfl).trans (advances_giveBack t))
    | fault f => exact h
    | refused r => exact h

theorem advancesTo_pass (s : State) : AdvancesTo s (pass s) := by
  have hf : (fetch s).AdvancedFrom s := by
    unfold fetch
    split
    · split
      · exact (advancedFrom_giveBack (advancedFrom_fetchElement _)).after (advances_readAheadLoop 4 s)
      · exact advancedFrom_fetchElement s
    · exact .refl s
  unfold pass
  split <;> rename_i he <;> rw [he] at hf
  · exact (advancesTo_exec _ _).after hf
  · exact hf

/-- Every step only advances. -/
theorem step_advances {s t : State} (h : step s = .next t) : Advances s t := by
  rcases step_next h with rfl | ⟨-, hp⟩ | ⟨-, u, rfl | ⟨hp, -⟩, rfl⟩
  · exact .refl t
  · exact advancesTo_pass s t hp
  · exact advances_raise _ u
  · exact (advancesTo_pass s u hp).trans (advances_raise _ u)

/-- Settles O52: every step only advances, which keeps the cursors ordered and every register in its width. -/
theorem outputOnly : Obligations.OutputOnly := by
  intro s t hs hst
  have h := step_advances hst
  exact ⟨h.cursorsOk hs, h.srcEnd, h.dstEnd, h.portOk hs, h.mem⟩

end Sys2Proof.Machine
end
section
/-! PROOF. `Take` and `DecodeSym` as one loop (R132, R163): look whether the bits held are enough, and refill where they are not. Without
the fuel that bounds it in the model, a read that goes on where another one stopped is the same read. -/

namespace Sys2Proof.Machine

/-- The state in a read's answer, or what it stopped with, changed by `f`. -/
def Res.map {α : Type} (f : State → State) : Res α → Res α
  | .val a s => .val a (f s)
  | .stop o => .stop (mapNext f o)

/-- A read of what `found` looks for answers `r` from the state: found in the bits held, or after a refill, or stopped by one. -/
inductive ReadsTo {α : Type} (found : State → Option (Res α)) : State → Res α → Prop where
  | done {s : State} {r : Res α} (h : found s = some r) : ReadsTo found s r
  | stop {s : State} {o : Result} (h : found s = none) (hr : refill s = .stop o) : ReadsTo found s (.stop o)
  | more {s t : State} {r : Res α} (h : found s = none) (hr : refill s = .val () t) (ht : ReadsTo found t r) :
      ReadsTo found s r

theorem ReadsTo.unique {α : Type} {found : State → Option (Res α)} {s : State} {r r' : Res α} (h : ReadsTo found s r)
    (h' : ReadsTo found s r') : r = r' := by
  induction h with
  | done h => cases h' <;> simp_all
  | stop h hr => cases h' <;> simp_all
  | more h hr ht ih =>
    cases h' with
    | done k => simp [h] at k
    | stop k kr => simp [hr] at kr
    | more k kr kt =>
      obtain ⟨-, rfl⟩ := Res.val.inj (hr.symm.trans kr)
      exact ih kt

/-! ### The two reads of the engine -/

/-- The low `n` bits, once they are held (R133). -/
def takeFound (n : Nat) (s : State) : Option (Res Acc) :=
  if s.nbits.toNat < n then none else some (.val (s.bits &&& BitVec.ofNat 32 (2 ^ n - 1)) (s.consume n))

/-- The symbol the held bits select, once its bits are held (R163). -/
def symFound (tab : Table) (s : State) : Option (Res Symbol) :=
  if entryKind (lookup tab s.bits).1 = .empty then some (.stop (.next (s.raise .internalHuffmanState)))
  else if (lookup tab s.bits).2 ≤ s.nbits.toNat then
    some (.val ⟨(lookup tab s.bits).1, (lookup tab s.bits).2, s.bits.toNat % 2 ^ (lookup tab s.bits).2⟩
      (s.consume (lookup tab s.bits).2))
  else none

theorem ensureLoop_readsTo {n : Nat} (k : Nat) (s : State) (hk : n ≤ s.nbits.toNat + 8 * k) :
    ReadsTo (takeFound n) s ((ensureLoop k n s).bind fun _ t =>
      .val (t.bits &&& BitVec.ofNat 32 (2 ^ n - 1)) (t.consume n)) := by
  induction k generalizing s with
  | zero => exact .done (by simpa [takeFound, ensureLoop, Res.bind] using hk)
  | succ k ih =>
    rw [ensureLoop]
    split
    next hn =>
      have hf : takeFound n s = none := by simp [takeFound, hn]
      rcases refill_spec s with ⟨t, ht, -, hb⟩ | ⟨o, ho, -⟩
      · rw [ht]
        exact .more hf ht (ih t (by omega))
      · rw [ho]
        exact .stop hf ho
    next hn => exact .done (by simp [takeFound, hn, Res.bind])

theorem take_readsTo {n : Nat} (hn : n ≤ 32) (s : State) : ReadsTo (takeFound n) s (take n s) :=
  ensureLoop_readsTo 4 s (by omega)

/-- A lookup needs 24 bits at most (R162). -/
theorem lookup_le (tab : Table) (w : Acc) : (lookup tab w).2 ≤ 24 := by
  have h1 := (entryNB (readTable tab (w.toNat % 512))).isLt
  simp only [lookup]
  split
  · have h2 := (entryNB (readTable tab ((entryPayload (readTable tab (w.toNat % 512))).toNat +
      w.toNat / 512 % 2 ^ (entryNX (readTable tab (w.toNat % 512))).toNat))).isLt
    dsimp only
    omega
  · dsimp only
    omega

theorem decodeSymLoop_readsTo (tab : Table) (k : Nat) (s : State) (hk : 24 ≤ s.nbits.toNat + 8 * k) :
    ReadsTo (symFound tab) s (decodeSymLoop (k + 1) tab s) := by
  have hle := lookup_le tab s.bits
  induction k generalizing s with
  | zero =>
    refine .done ?_
    have hL : (lookup tab s.bits).2 ≤ s.nbits.toNat := by omega
    by_cases he : entryKind (lookup tab s.bits).1 = .empty <;> simp [symFound, decodeSymLoop, he, hL]
  | succ k ih =>
    by_cases he : entryKind (lookup tab s.bits).1 = .empty
    · exact .done (by simp [symFound, decodeSymLoop, he])
    by_cases hL : (lookup tab s.bits).2 ≤ s.nbits.toNat
    · exact .done (by simp [symFound, decodeSymLoop, he, hL])
    have hf : symFound tab s = none := by simp [symFound, he, hL]
    have hd : decodeSymLoop (k + 2) tab s = (refill s).bind fun _ t => decodeSymLoop (k + 1) tab t := by
      simp [decodeSymLoop, he, hL]
    rw [hd]
    rcases refill_spec s with ⟨t, ht, -, hb⟩ | ⟨o, ho, -⟩
    · rw [ht]
      exact .more hf ht (ih t (by omega) (lookup_le tab t.bits))
    · rw [ho]
      exact .stop hf ho

theorem decodeSym_readsTo (tab : Table) (s : State) : ReadsTo (symFound tab) s (decodeSym tab s) :=
  decodeSymLoop_readsTo tab 3 s (by omega)

/-! ### The same read in a changed state -/

/-- A change of the state that reads do not see: the accumulator is as it was, and the read's own updates commute with it. -/
structure Unread (f : State → State) : Prop where
  bits : ∀ s, (f s).bits = s.bits
  nbits : ∀ s, (f s).nbits = s.nbits
  consume : ∀ n s, (f s).consume n = f (s.consume n)
  raise : ∀ e s, (f s).raise e = f (s.raise e)

/-- Something looked for that is found in the changed state as in the state itself. -/
def SameFound {α : Type} (f : State → State) (found : State → Option (Res α)) : Prop :=
  ∀ s, found (f s) = (found s).map (Res.map f)

theorem Unread.takeFound {f : State → State} (hf : Unread f) (n : Nat) : SameFound f (takeFound n) := by
  intro s
  by_cases h : s.nbits.toNat < n <;> simp [Machine.takeFound, hf.nbits, hf.bits, hf.consume, h, Res.map]

theorem Unread.symFound {f : State → State} (hf : Unread f) (tab : Table) : SameFound f (symFound tab) := by
  intro s
  by_cases he : entryKind (lookup tab s.bits).1 = .empty
  · simp [Machine.symFound, hf.bits, hf.raise, he, Res.map, mapNext]
  by_cases hL : (lookup tab s.bits).2 ≤ s.nbits.toNat <;>
    simp [Machine.symFound, hf.bits, hf.nbits, hf.consume, he, hL, Res.map]

/-- A read in the changed state, where every refill on its way is the same there. -/
theorem ReadsTo.map {α : Type} {f : State → State} {found : State → Option (Res α)} (hfound : SameFound f found)
    {P : State → Prop}
    (hP : ∀ s t, P s → refill s = .val () t → P t) (hrefill : ∀ s, P s → refill (f s) = (refill s).map f)
    {s : State} {r : Res α} (h : ReadsTo found s r) (hs : P s) : ReadsTo found (f s) (r.map f) := by
  induction h with
  | done h => exact .done (by rw [hfound, h]; rfl)
  | stop h hr => exact .stop (by rw [hfound, h]; rfl) (by rw [hrefill _ hs, hr]; rfl)
  | more h hr _ ih => exact .more (by rw [hfound, h]; rfl) (by rw [hrefill _ hs, hr]; rfl) (ih (hP _ _ hs hr))

end Sys2Proof.Machine
end
section
/-! PROOF. Two runs beside two host memories (R11, R60, R304). The memories agree on the input range while the engine reads, on the
ADD_HISTORY range, and on the output put out so far; every move of the one run is the same move of the other. -/

namespace Sys2Proof.Machine

/-- Memory `m` beside the one of `s`: the ADD_HISTORY range and the output from `a` on are the same in both. -/
structure SameOutput (a : Nat) (s : State) (m : Mem) : Prop where
  wf : s.MemOk
  wf' : m.wf = true
  history : ∀ x, s.port.hbPtr ≤ x → x < s.port.hbPtr + s.port.hbLen → m.read x = s.mem.read x
  output : ∀ x, a ≤ x → x < s.port.dstPtr → m.read x = s.mem.read x

/-- The input that is left is the same in `m`. -/
structure SameInput (s : State) (m : Mem) : Prop where
  order : s.port.srcPtr ≤ s.port.srcEnd
  same : ∀ x, s.port.srcPtr ≤ x → x < s.port.srcEnd → m.read x = s.mem.read x

/-- The same answer beside another memory, with the same output from `a` on. -/
inductive Twin (a : Nat) : Result → Result → Prop where
  | next {t : State} {m : Mem} (h : SameOutput a t m) : Twin a (.next t) (.next (t.withMem m))
  | fault (f : Fault) : Twin a (.fault f) (.fault f)
  | refused (r : Refusal) : Twin a (.refused r) (.refused r)

theorem SameOutput.still {a : Nat} {s t : State} {m : Mem} (h : SameOutput a s m) (k : Still s t) : SameOutput a t m := by
  refine ⟨?_, h.wf', ?_, ?_⟩
  · rw [State.MemOk, k.mem]
    exact h.wf
  · rw [k.mem, k.port]
    exact h.history
  · rw [k.mem, k.port]
    exact h.output

theorem SameInput.frame {s t : State} {m : Mem} (h : SameInput s m) (k : BitFrame s t) : SameInput t m := by
  have hend := k.still.srcEnd
  refine ⟨hend ▸ k.inside h.order, fun x h1 h2 => ?_⟩
  rw [k.still.mem]
  exact h.same x (k.moved.trans h1) (hend ▸ h2)

theorem twin_still {a : Nat} {s t : State} {m : Mem} (h : SameOutput a s m) (k : Still s t) :
    Twin a (.next t) (.next (t.withMem m)) := .next (h.still k)

/-- Two choices by tests that agree. -/
theorem ite_both {α : Type} {R : α → α → Prop} {c c' : Prop} [Decidable c] [Decidable c'] {x y x' y' : α} (hc : c ↔ c')
    (h₁ : c → R x x') (h₂ : ¬ c → R y y') : R (if c then x else y) (if c' then x' else y') := by
  by_cases h : c
  · rw [if_pos h, if_pos (hc.mp h)]
    exact h₁ h
  · rw [if_neg h, if_neg (mt hc.mpr h)]
    exact h₂ h

/-! ### Moves inside the engine, output, commands -/

theorem Inner.twin {op : State → Result} (h : Inner op) {a : Nat} {s : State} {m : Mem} (hs : SameOutput a s m) :
    Twin a (op s) (op (s.withMem m)) := by
  obtain ⟨t, ht⟩ := h s
  have hm : t.beside m s.port = t.withMem m := congrArg (fun p => { t with mem := m, port := p }) ht.unmoved.2.symm
  have hb : op (s.withMem m) = .next (t.withMem m) := (ht.beside m s.port).trans (congrArg _ hm)
  rw [ht.answer, hb]
  exact twin_still hs ht.still

/-- The same byte put out in both runs. -/
theorem SameOutput.emitted {a : Nat} {s : State} {m : Mem} (h : SameOutput a s m) (b : Byte) :
    SameOutput a (s.emitted b) (m.write s.port.dstPtr b) := by
  refine ⟨Mem.wf_write h.wf _ _, Mem.wf_write h.wf' _ _, fun x h1 h2 => ?_, fun x h1 h2 => ?_⟩
  · rw [State.emitted_mem, Mem.read_write h.wf, Mem.read_write h.wf', h.history x h1 h2]
  · rw [State.emitted_mem, Mem.read_write h.wf, Mem.read_write h.wf']
    split
    · rfl
    · simp only [State.emitted_port] at h2
      exact h.output x h1 (by omega)

theorem twin_emit {a : Nat} {s : State} {m : Mem} (h : SameOutput a s m) (b : Byte) {f : State → State} (hf : Local f) :
    Twin a (andThen (emit b s) fun t => .next (f t)) (andThen (emit b (s.withMem m)) fun t => .next (f t)) := by
  cases hsp : s.inSpace s.port.dstPtr
  · have hsp' : (s.withMem m).inSpace (s.withMem m).port.dstPtr = false := hsp
    have he : emit b s = .fault .noSuchAddress := by simp [emit, hsp]
    have he' : emit b (s.withMem m) = .fault .noSuchAddress := by simp [emit, hsp']
    rw [he, he']
    exact .fault _
  · have he : emit b s = .next (s.emitted b) := by simp [emit, hsp]
    have he' : emit b (s.withMem m) = .next ((s.emitted b).withMem (m.write s.port.dstPtr b)) := if_pos hsp
    rw [he, he']
    exact (Inner.next hf).twin (h.emitted b)

theorem twin_litOut {a : Nat} {s : State} {m : Mem} (h : SameOutput a s m) : Twin a (litOut s) (litOut (s.withMem m)) :=
  ite_both .rfl (fun _ => twin_still h ⟨rfl, rfl, rfl⟩) fun _ => twin_emit h _ local_toLLSym

theorem twin_execStoredByte {a : Nat} {s : State} {m : Mem} (h : SameOutput a s m) (b : Byte) :
    Twin a (execStoredByte b s) (execStoredByte b (s.withMem m)) :=
  ite_both .rfl (fun _ => twin_still h ⟨rfl, rfl, rfl⟩) fun _ => twin_emit h _ local_countByte

/-- The copy reads the history, not memory (R302). -/
theorem twin_copyLoop (n : Nat) {a : Nat} {s : State} {m : Mem} (h : SameOutput a s m) :
    Twin a (copyLoop n s) (copyLoop n (s.withMem m)) := by
  induction n generalizing s m with
  | zero => exact twin_still h ⟨rfl, rfl, rfl⟩
  | succ n ih =>
    exact ite_both .rfl (fun _ => twin_still h ⟨rfl, rfl, rfl⟩) fun _ =>
      ite_both .rfl (fun _ => ih ((h.emitted (s.win.histAt s.loc.dist.toNat)).still ⟨rfl, rfl, rfl⟩)) fun _ => .fault _

theorem twin_finishDist (x : Nat) {a : Nat} {s : State} {m : Mem} (h : SameOutput a s m) :
    Twin a (finishDist x s) (finishDist x (s.withMem m)) :=
  ite_both .rfl (fun _ => twin_still h ⟨rfl, rfl, rfl⟩) fun _ => twin_copyLoop _ (h.still ⟨rfl, rfl, rfl⟩)

/-- ADD_HISTORY reads its own range (R305). -/
theorem addBytes_withMem (n x : Nat) (s : State) (m : Mem) (h : ∀ y, x ≤ y → y < x + n → m.read y = s.mem.read y) :
    addBytes n x (s.withMem m) = mapNext (·.withMem m) (addBytes n x s) := by
  induction n generalizing x s with
  | zero => rfl
  | succ n ih =>
    have hx : (s.withMem m).appended ((s.withMem m).mem.read x) = (s.appended (s.mem.read x)).withMem m :=
      congrArg (fun b => (s.appended b).withMem m) (h x (Nat.le_refl x) (by omega))
    have hstep : addBytes n (x + 1) ((s.withMem m).appended ((s.withMem m).mem.read x)) =
        mapNext (·.withMem m) (addBytes n (x + 1) (s.appended (s.mem.read x))) :=
      hx ▸ ih (x + 1) _ fun y h1 h2 => h y (by omega) (by omega)
    rw [addBytes, addBytes, apply_ite (mapNext _), hstep]
    rfl

theorem twin_execAddHistory {a : Nat} {s : State} {m : Mem} (h : SameOutput a s m) :
    Twin a (execAddHistory s) (execAddHistory (s.withMem m)) := by
  refine ite_both .rfl (fun _ => twin_still h ⟨rfl, rfl, rfl⟩) fun _ => ite_both .rfl (fun _ => ?_) fun _ => .refused _
  have hm : addBytes (s.withMem m).port.hbLen (s.withMem m).port.hbPtr (s.withMem m) =
      mapNext (·.withMem m) (addBytes s.port.hbLen s.port.hbPtr s) := addBytes_withMem _ _ s m h.history
  rw [hm]
  cases ha : addBytes s.port.hbLen s.port.hbPtr s with
  | next t => exact twin_still h (by rw [addBytes_frame _ _ _ _ ha]; exact ⟨rfl, rfl, rfl⟩)
  | fault f => exact .fault f
  | refused r => exact .refused r

theorem twin_execDecode {a : Nat} {s : State} {m : Mem} (h : SameOutput a s m) :
    Twin a (execDecode s) (execDecode (s.withMem m)) :=
  ite_both .rfl (fun _ => twin_still h ⟨rfl, rfl, rfl⟩) fun _ =>
    ite_both .rfl (fun _ => twin_still h ⟨rfl, rfl, rfl⟩) fun _ =>
      ite_both .rfl (fun _ => twin_still h ⟨rfl, rfl, rfl⟩) fun _ => .refused _

/-- A state with the memory, the output cursor and the ADD_HISTORY range of `s`. -/
theorem SameOutput.of_eq {a : Nat} {s t : State} {m : Mem} (h : SameOutput a s m) (hm : t.mem = s.mem)
    (hp : t.port.hbPtr = s.port.hbPtr ∧ t.port.hbLen = s.port.hbLen ∧ t.port.dstPtr = s.port.dstPtr) : SameOutput a t m := by
  obtain ⟨h1, h2, h3⟩ := hp
  exact ⟨by rw [State.MemOk, hm]; exact h.wf, h.wf', by rw [hm, h1, h2]; exact h.history, by rw [hm, h3]; exact h.output⟩

theorem twin_command (c : Nat) {a : Nat} {s : State} {m : Mem} (h : SameOutput a s m) :
    Twin a (shapeMeaning (.command c) s) (shapeMeaning (.command c) (s.withMem m)) :=
  ite_both .rfl (fun _ => .next (h.of_eq rfl ⟨rfl, rfl, rfl⟩)) fun _ =>
    ite_both .rfl (fun _ => twin_execDecode h) fun _ =>
      ite_both .rfl (fun _ => twin_execAddHistory h) fun _ => .next (h.of_eq rfl ⟨rfl, rfl, rfl⟩)

theorem twin_exec (i : Instr) {a : Nat} {s : State} {m : Mem} (h : SameOutput a s m) :
    Twin a (exec i s) (exec i (s.withMem m)) := by
  rw [exec_eq_meaning, exec_eq_meaning]
  by_cases hi : Shape.inside i.shape
  · exact (inner_shapeMeaning hi).twin h
  cases hsh : i.shape with
  | storedByte b => exact twin_execStoredByte h b
  | ll n x =>
    rw [hsh] at hi
    rw [shapeMeaning, shapeMeaning, if_pos (Nat.not_le.mp hi), if_pos (Nat.not_le.mp hi)]
    exact twin_litOut (h.still ⟨rfl, rfl, rfl⟩)
  | dist n x =>
    rw [hsh] at hi
    rw [shapeMeaning, shapeMeaning, if_pos (Nat.not_le.mp hi), if_pos (Nat.not_le.mp hi)]
    exact twin_finishDist x (h.still ⟨rfl, rfl, rfl⟩)
  | command c => exact twin_command c h
  | _ =>
    rw [hsh] at hi
    exact (hi trivial).elim

/-! ### Reads -/

theorem unread_withMem (m : Mem) : Unread (·.withMem m) := ⟨fun _ => rfl, fun _ => rfl, fun _ _ => rfl, fun _ _ => rfl⟩

theorem inputExhausted_withMem (s : State) (m : Mem) : (s.withMem m).inputExhausted = s.inputExhausted.withMem m := by
  rw [State.inputExhausted, State.inputExhausted, apply_ite (State.withMem · m)]
  rfl

theorem refilled_withMem {s : State} {m : Mem} (h : m.read s.port.srcPtr = s.mem.read s.port.srcPtr) :
    (s.withMem m).refilled = s.refilled.withMem m :=
  congrArg (fun b : Byte => { s.refilled.withMem m with bits := s.bits ||| (b.setWidth 32 <<< s.nbits.toNat) }) h

theorem SameInput.next {s : State} {m : Mem} (h : SameInput s m) (hne : s.port.srcPtr ≠ s.port.srcEnd) :
    m.read s.port.srcPtr = s.mem.read s.port.srcPtr :=
  h.same _ (Nat.le_refl _) (Nat.lt_of_le_of_ne h.order hne)

theorem refill_withMem {s : State} {m : Mem} (h : SameInput s m) : refill (s.withMem m) = (refill s).map (·.withMem m) :=
  ite_both (R := fun r r' : Res Unit => r' = r.map (·.withMem m)) .rfl (fun _ => rfl) fun _ =>
    ite_both (R := fun r r' : Res Unit => r' = r.map (·.withMem m)) .rfl
      (fun _ => congrArg (fun t => Res.stop (.next t)) (inputExhausted_withMem s m)) fun hne =>
        ite_both (R := fun r r' : Res Unit => r' = r.map (·.withMem m)) .rfl
          (fun _ => congrArg (Res.val ()) (refilled_withMem (h.next hne))) fun _ => rfl

/-- A refill that reads a byte is a move of the bit reader. -/
theorem bitFrame_of_refill {s t : State} (h : refill s = .val () t) : BitFrame s t := by
  rcases refill_spec s with ⟨u, hu, hf, -⟩ | ⟨o, ho, -⟩
  · exact (Res.val.inj (h.symm.trans hu)).2 ▸ hf
  · exact nomatch h.symm.trans ho

theorem take_withMem {n : Nat} (hn : n ≤ 32) {s : State} {m : Mem} (h : SameInput s m) :
    take n (s.withMem m) = (take n s).map (·.withMem m) :=
  (take_readsTo hn _).unique
    ((take_readsTo hn s).map ((unread_withMem m).takeFound n) (P := (SameInput · m))
      (fun _ _ hs hr => hs.frame (bitFrame_of_refill hr)) (fun _ => refill_withMem) h)

theorem decodeSym_withMem (tab : Table) {s : State} {m : Mem} (h : SameInput s m) :
    decodeSym tab (s.withMem m) = (decodeSym tab s).map (·.withMem m) :=
  (decodeSym_readsTo tab _).unique
    ((decodeSym_readsTo tab s).map ((unread_withMem m).symFound tab) (P := (SameInput · m))
      (fun _ _ hs hr => hs.frame (bitFrame_of_refill hr)) (fun _ => refill_withMem) h)

/-! ### Fetch -/

/-- The same instruction or move fetched beside another memory. -/
inductive FetchTwin (a : Nat) : Fetched → Fetched → Prop where
  | instr (i : Instr) {t : State} {m : Mem} (h : SameOutput a t m) : FetchTwin a (.instr i t) (.instr i (t.withMem m))
  | engine {o o' : Result} (h : Twin a o o') : FetchTwin a (.engine o) (.engine o')

theorem ReadStop.twin {s : State} {o : Result} (h : ReadStop s o) {a : Nat} {m : Mem} (hs : SameOutput a s m) :
    Twin a o (mapNext (·.withMem m) o) := by
  cases h with
  | exhausted t ht _ =>
    refine twin_still (hs.still ht.still) ?_
    unfold State.inputExhausted
    split <;> exact ⟨rfl, rfl, rfl⟩
  | bitCount t ht => exact twin_still (hs.still ht.still) ⟨rfl, rfl, rfl⟩
  | empty t ht => exact twin_still (hs.still ht.still) ⟨rfl, rfl, rfl⟩
  | noAddress => exact .fault _

theorem fetchTwin_ofInstr (i : Option Instr) {a : Nat} {t : State} {m : Mem} {o o' : Result} (h : SameOutput a t m)
    (ho : Twin a o o') : FetchTwin a (.ofInstr i t o) (.ofInstr i (t.withMem m) o') := by
  cases i with
  | some i => exact .instr i h
  | none => exact .engine ho

/-- A read that is the same in both runs, and what is fetched behind it. -/
theorem fetchTwin_fetch {α : Type} {a : Nat} {s : State} {m : Mem} {r r' : Res α} {k k' : α → State → Fetched}
    (hr : r' = r.map (·.withMem m)) (hf : (∀ x t, r = .val x t → BitFrame s t) ∧ ∀ o, r = .stop o → ReadStop s o)
    (hin : SameInput s m) (hout : SameOutput a s m)
    (hk : ∀ x t, SameInput t m → SameOutput a t m → FetchTwin a (k x t) (k' x (t.withMem m))) :
    FetchTwin a (r.fetch k) (r'.fetch k') := by
  subst hr
  cases r with
  | val x t => exact hk x t (hin.frame (hf.1 x t rfl)) (hout.still (hf.1 x t rfl).still)
  | stop o => exact .engine ((hf.2 o rfl).twin hout)

theorem fetchTwin_take {n : Nat} (hn : n ≤ 32) {a : Nat} {s : State} {m : Mem} {k k' : Acc → State → Fetched}
    (hin : SameInput s m) (hout : SameOutput a s m)
    (hk : ∀ x t, SameInput t m → SameOutput a t m → FetchTwin a (k x t) (k' x (t.withMem m))) :
    FetchTwin a ((take n s).fetch k) ((take n (s.withMem m)).fetch k') :=
  fetchTwin_fetch (take_withMem hn hin) (take_frame hn s) hin hout hk

theorem fetchTwin_decodeSym (tab : Table) {a : Nat} {s : State} {m : Mem} {k k' : Symbol → State → Fetched}
    (hin : SameInput s m) (hout : SameOutput a s m)
    (hk : ∀ y t, SameInput t m → SameOutput a t m → FetchTwin a (k y t) (k' y (t.withMem m))) :
    FetchTwin a ((decodeSym tab s).fetch k) ((decodeSym tab (s.withMem m)).fetch k') :=
  fetchTwin_fetch (decodeSym_withMem tab hin) (decodeSym_frame tab s) hin hout hk

theorem Inner.fetchTwin {op : State → Result} (h : Inner op) {a : Nat} {s : State} {m : Mem} (hs : SameOutput a s m) :
    FetchTwin a (.engine (op s)) (.engine (op (s.withMem m))) := .engine (h.twin hs)

theorem fetchTwin_still {a : Nat} {s t : State} {m : Mem} (hs : SameOutput a s m) (h : Still s t) :
    FetchTwin a (.engine (.next t)) (.engine (.next (t.withMem m))) := .engine (twin_still hs h)

theorem fetchTwin_fetchStored {a : Nat} {s : State} {m : Mem} (hin : SameInput s m) (hout : SameOutput a s m) :
    FetchTwin a (fetchStored s) (fetchStored (s.withMem m)) := by
  refine ite_both .rfl (fun _ => fetchTwin_still hout ⟨rfl, rfl, rfl⟩) fun _ =>
    ite_both .rfl (fun _ => fetchTwin_still hout ⟨rfl, rfl, rfl⟩) fun _ => ite_both .rfl (fun he => ?_) fun hne =>
      ite_both .rfl (fun _ => ?_) fun _ => .engine (.fault _)
  · rw [inputExhausted_withMem]
    exact .engine ((ReadStop.exhausted s (.refl s) he).twin hout)
  · rw [show (s.withMem m).mem.read (s.withMem m).port.srcPtr = s.mem.read s.port.srcPtr from hin.next hne]
    exact .instr _ (hout.still ⟨rfl, rfl, rfl⟩)

theorem fetchTwin_fetchCL {a : Nat} {s : State} {m : Mem} (hin : SameInput s m) (hout : SameOutput a s m) :
    FetchTwin a (fetchCL s) (fetchCL (s.withMem m)) := by
  refine ite_both .rfl (fun _ => fetchTwin_still hout ⟨rfl, rfl, rfl⟩) fun _ =>
    fetchTwin_decodeSym _ hin hout fun y t hi ho => ite_both .rfl (fun _ => fetchTwin_still ho ⟨rfl, rfl, rfl⟩) fun _ =>
      ite_both .rfl (fun _ => fetchTwin_ofInstr _ ho (twin_still ho ⟨rfl, rfl, rfl⟩)) fun _ => ?_
  exact fetchTwin_take (by have := repeatExtra_le (entryPayload y.entry).toNat; omega) (s := t.latchRepeat _)
    ⟨hi.order, hi.same⟩
    (ho.still ⟨rfl, rfl, rfl⟩) fun _ _ _ hu => fetchTwin_ofInstr _ hu (twin_still hu ⟨rfl, rfl, rfl⟩)

theorem fetchTwin_resumeRepeat {a : Nat} {s : State} {m : Mem} (hin : SameInput s m) (hout : SameOutput a s m) :
    FetchTwin a (resumeRepeat s) (resumeRepeat (s.withMem m)) :=
  ite_both .rfl (fun _ => fetchTwin_still hout ⟨rfl, rfl, rfl⟩) fun _ =>
    fetchTwin_take (by have := repeatExtra_le s.loc.repsym.toNat; omega) hin hout fun x _ _ hu =>
      (inner_applyRepeat x.toNat).fetchTwin hu

theorem fetchTwin_fetchLL {a : Nat} {s : State} {m : Mem} (hin : SameInput s m) (hout : SameOutput a s m) :
    FetchTwin a (fetchLL s) (fetchLL (s.withMem m)) := by
  refine fetchTwin_decodeSym _ hin hout fun y t hi ho => ?_
  split
  · exact fetchTwin_ofInstr _ ho (twin_still ho ⟨rfl, rfl, rfl⟩)
  · exact .instr _ ho
  · exact fetchTwin_take (by omega) (s := t.latchLen _ _) ⟨hi.order, hi.same⟩ (ho.still ⟨rfl, rfl, rfl⟩)
      fun x _ _ hu => fetchTwin_ofInstr _ hu ((inner_finishLength x.toNat).twin hu)
  · exact fetchTwin_ofInstr _ ho (inner_badCode.twin ho)
  · exact fetchTwin_still ho ⟨rfl, rfl, rfl⟩

theorem fetchTwin_fetchDist {a : Nat} {s : State} {m : Mem} (hin : SameInput s m) (hout : SameOutput a s m) :
    FetchTwin a (fetchDist s) (fetchDist (s.withMem m)) := by
  refine fetchTwin_decodeSym _ hin hout fun y t hi ho => ?_
  split
  · exact fetchTwin_take (by omega) (s := t.latchDist _ _) ⟨hi.order, hi.same⟩ (ho.still ⟨rfl, rfl, rfl⟩)
      fun x _ _ hu => fetchTwin_ofInstr _ hu (twin_finishDist x.toNat hu)
  · exact fetchTwin_ofInstr _ ho (inner_badCode.twin ho)
  · exact fetchTwin_still ho ⟨rfl, rfl, rfl⟩

theorem fetchTwin_fetchCll {a : Nat} {s : State} {m : Mem} (hin : SameInput s m) (hout : SameOutput a s m) :
    FetchTwin a (fetchCll s) (fetchCll (s.withMem m)) :=
  ite_both .rfl (fun _ => fetchTwin_take (by omega) hin hout fun _ _ _ hu => .instr _ (hu.still ⟨rfl, rfl, rfl⟩)) fun _ =>
    inner_cllDone.fetchTwin hout

theorem fetchTwin_fetchElement {a : Nat} {s : State} {m : Mem} (hin : SameInput s m) (hout : SameOutput a s m) :
    FetchTwin a (fetchElement s) (fetchElement (s.withMem m)) := by
  have hfsm : (s.withMem m).fsm = s.fsm := rfl
  unfold fetchElement
  rw [hfsm]
  cases s.fsm with
  | hdr => exact fetchTwin_take (by omega) hin hout fun _ _ _ hu => .instr _ hu
  | storedLen => exact fetchTwin_take (by omega) hin hout fun _ _ _ hu => .instr _ hu
  | storedCopy => exact fetchTwin_fetchStored hin hout
  | fixedInit => exact inner_fixedInit.fetchTwin hout
  | dynHdr => exact fetchTwin_take (by omega) hin hout fun _ _ _ hu => .instr _ hu
  | dynCll => exact fetchTwin_fetchCll hin hout
  | dynLensSym => exact fetchTwin_fetchCL hin hout
  | dynLensExtra => exact fetchTwin_resumeRepeat hin hout
  | dynBuild => exact inner_dynBuild.fetchTwin hout
  | llSym => exact fetchTwin_fetchLL hin hout
  | litOut => exact .engine (twin_litOut hout)
  | lenExtra => exact fetchTwin_take (by omega) hin hout fun x _ _ hu => (inner_finishLength x.toNat).fetchTwin hu
  | distSym => exact fetchTwin_fetchDist hin hout
  | distExtra => exact fetchTwin_take (by omega) hin hout fun x _ _ hu => .engine (twin_finishDist x.toNat hu)
  | copy => exact .engine (twin_copyLoop _ hout)
  | blockEnd => exact inner_blockEnd.fetchTwin hout
  | done => exact fetchTwin_still hout ⟨rfl, rfl, rfl⟩

/-! ### The fast variant, the step -/

theorem FetchTwin.giveBack {a : Nat} {F F' : Fetched} (h : FetchTwin a F F') : FetchTwin a F.giveBack F'.giveBack := by
  cases h with
  | instr i h => exact .instr i (h.still (t := State.giveBack _) ⟨rfl, rfl, rfl⟩)
  | engine h =>
    cases h with
    | next h => exact .engine (.next (h.still (t := State.giveBack _) ⟨rfl, rfl, rfl⟩))
    | fault f => exact .engine (.fault f)
    | refused r => exact .engine (.refused r)

/-- Reading ahead meets the same bytes in both memories (R138). -/
theorem readAheadLoop_withMem (k : Nat) {a : Nat} {s : State} {m : Mem} (hin : SameInput s m) (hout : SameOutput a s m) :
    readAheadLoop k (s.withMem m) = (readAheadLoop k s).withMem m ∧ SameInput (readAheadLoop k s) m ∧
      SameOutput a (readAheadLoop k s) m := by
  induction k generalizing s with
  | zero => exact ⟨rfl, hin, hout⟩
  | succ k ih =>
    refine ite_both (R := fun t t' : State => t' = t.withMem m ∧ SameInput t m ∧ SameOutput a t m) .rfl (fun hc => ?_)
      fun _ => ⟨rfl, hin, hout⟩
    obtain ⟨hn, hlt, -⟩ := hc
    have hf := bitFrame_refilled hn hlt.ne
    rw [refilled_withMem (hin.next hlt.ne)]
    exact ih (hin.frame hf) (hout.still hf.still)

theorem fetchTwin_fetch_step {a : Nat} {s : State} {m : Mem} (hin : SameInput s m) (hout : SameOutput a s m) :
    FetchTwin a (fetch s) (fetch (s.withMem m)) := by
  refine ite_both .rfl (fun _ => ite_both .rfl (fun _ => ?_) fun _ => fetchTwin_fetchElement hin hout) fun _ => .instr _ hout
  obtain ⟨he, hi, ho⟩ := readAheadLoop_withMem 4 hin hout
  rw [State.readAhead, State.readAhead, he]
  exact (fetchTwin_fetchElement hi ho).giveBack

theorem twin_pass {a : Nat} {s : State} {m : Mem} (hin : SameInput s m) (hout : SameOutput a s m) :
    Twin a (pass s) (pass (s.withMem m)) := by
  have hf := fetchTwin_fetch_step hin hout
  unfold pass
  generalize fetch s = F at hf
  generalize fetch (s.withMem m) = F' at hf
  cases hf with
  | instr i h => exact twin_exec i h
  | engine h => exact h

theorem Twin.settleOwed {a : Nat} {o o' : Result} (h : Twin a o o') (b : Bool) :
    Twin a (settleOwed b o) (settleOwed b o') := by
  cases h with
  | next h => exact ite_both .rfl (fun _ => .next (h.still (t := State.raise _ _) ⟨rfl, rfl, rfl⟩)) fun _ => .next h
  | fault f => exact .fault f
  | refused r => exact .refused r

theorem twin_step {a : Nat} {s : State} {m : Mem} (hin : SameInput s m) (hout : SameOutput a s m) :
    Twin a (step s) (step (s.withMem m)) :=
  ite_both .rfl
    (fun _ => ite_both .rfl (fun _ => twin_still hout ⟨rfl, rfl, rfl⟩) fun _ =>
      (twin_pass hin hout).settleOwed s.interleaved)
    fun _ => .next hout

/-- Settles O54: a step beside the other memory is the twin of the step. -/
theorem memoryIsolation : Obligations.MemoryIsolation := by
  intro s m hcur hwf hwf' hsrc hhist
  have h : Twin s.port.dstPtr (step s) (step (s.withMem m)) :=
    twin_step ⟨hcur.1, hsrc⟩ ⟨hwf, hwf', hhist, fun x h1 h2 => absurd h2 (Nat.not_lt.mpr h1)⟩
  generalize step s = o at h
  generalize step (s.withMem m) = o' at h
  cases h with
  | next h =>
    exact ⟨fun t ht => Host.Outcome.next.inj ht ▸ ⟨_, rfl, h.output⟩, fun _ hf => (nomatch hf), fun _ hr => (nomatch hr)⟩
  | fault f => exact ⟨fun _ ht => (nomatch ht), fun _ hf => hf, fun _ hr => (nomatch hr)⟩
  | refused r => exact ⟨fun _ ht => (nomatch ht), fun _ hf => (nomatch hf), fun _ hr => hr⟩

end Sys2Proof.Machine
end
section
/-! PROOF. What the symbols do, without their instructions: an entry carries a base and an extra-bit count, and the instruction found
from them (R98, R99, R156) has the effect the entry says. So a pass and its resumed second part are one meaning. -/

namespace Sys2Proof.Machine

/-- What a pass does with what it has fetched. -/
def Fetched.run : Fetched → Result
  | .instr i s => exec i s
  | .engine o => o

/-- Go on with the value read, or end as the read ends. -/
def Res.run {α : Type} (r : Res α) (k : α → State → Result) : Result :=
  match r with
  | .val a s => k a s
  | .stop o => o

theorem run_fetch {α : Type} (r : Res α) (k : α → State → Fetched) : (r.fetch k).run = r.run fun a t => (k a t).run := by
  cases r <;> rfl

theorem pass_eq_run (s : State) : pass s = (fetch s).run := by
  unfold pass Fetched.run
  cases fetch s <;> rfl

/-- A step of a started DECODE is a slow pass, where the fast variant is not ready (R341). -/
theorem step_eq_run {s : State} (h : s.Decoding) (hf : s.fastReady = false) : step s = (fetchElement s).run := by
  obtain ⟨hb, hd, hi⟩ := h
  rw [step_of_pass hb hi, pass_eq_run, fetch, if_pos hd, if_neg (by simp [hf])]

/-! ### The instruction of an entry -/

theorem length_literals :
    (llTable0 ++ llTable1 ++ llTable2 ++ llTable3 ++ llTable4 ++ llTable5 ++ llTable6 ++ llTable7).length = 256 := by
  decide +kernel

/-- The symbols above the literals are the last part of the table (R98). -/
theorem llInstr_high (k x : Nat) : llInstr (256 + k) x = llTable8[k]?.map (· x) := by
  rw [llInstr, llTable, List.getElem?_append_right (by rw [length_literals]; omega), length_literals,
    Nat.add_sub_cancel_left]

/-- The fields of a length symbol's instruction (R104). -/
theorem shape_llInstr_length {j x : Nat} (hj : j < 29) :
    (llInstr (257 + j) x).map Instr.shape = some (.ll (257 + j) (x % 2 ^ lenExtra.getD j 0)) := by
  rw [show 257 + j = 256 + (j + 1) by omega, llInstr_high]
  interval_cases j <;> simp [llTable8, Instr.shape, lenExtra, Nat.mod_one]

/-- The fields of a distance symbol's instruction (R105). -/
theorem shape_distInstr {d x : Nat} (hd : d < 30) :
    (distInstr d x).map Instr.shape = some (.dist d (x % 2 ^ distExtra.getD d 0)) := by
  interval_cases d <;> simp [distInstr, distTable, Instr.shape, distExtra, Nat.mod_one]

/-- The fields of a literal's instruction (R98). -/
theorem shape_llInstr_literal {b : Nat} (hb : b < 256) : (llInstr b 0).map Instr.shape = some (.ll b 0) := by
  revert b
  decide +kernel

/-- The fields of a code-length symbol's instruction (R96). -/
theorem shape_clInstr {n x : Nat} (hn : n < 19) : (clInstr n x).map Instr.shape = some (.cl n (x % 2 ^ repeatExtra n)) := by
  interval_cases n <;> simp [clInstr, clTable, Instr.shape, repeatExtra, Nat.mod_one]

/-- `exec` of an instruction some table names, by its fields. -/
theorem exec_of_table {o : Option Instr} {h : Shape} (ho : o.map Instr.shape = some h) {i : Instr} (hi : o = some i)
    (s : State) :
    exec i s = shapeMeaning h s := by
  subst hi
  exact exec_of_shape (Option.some.inj ho) s

theorem run_ofInstr {i : Option Instr} {s : State} {o r : Result} (hs : ∀ j, i = some j → exec j s = r)
    (hn : i = none → o = r) :
    (Fetched.ofInstr i s o).run = r := by
  cases i with
  | some j => exact hs j rfl
  | none => exact hn rfl

/-- The symbol found from an entry has the entry's base and extra-bit count. -/
theorem baseIndex_spec {bases extras : List Nat} {e : Entry} {j : Nat} (h : baseIndex bases extras e = some j) :
    j < bases.length ∧ bases.getD j 0 = (entryPayload e).toNat ∧ extras.getD j 0 = (entryNX e).toNat := by
  have hp := List.find?_some h
  have hm := List.mem_of_find?_eq_some h
  simp only [Bool.and_eq_true, decide_eq_true_eq] at hp
  exact ⟨List.mem_range.mp hm, hp⟩

/-- A length symbol whose entry is latched already, with its extra field (R264). -/
theorem run_lengthEntry {e : Entry} {x : Nat} {s : State} (hx : x < 2 ^ (entryNX e).toNat)
    (hs : s.latchLen ((entryPayload e).setWidth 9) ((entryNX e).setWidth 3) = s) :
    (Fetched.ofInstr (lenEntryInstr e x) s (finishLength x s)).run = finishLength x s := by
  refine run_ofInstr (fun i hi => ?_) fun _ => rfl
  obtain ⟨j, hj, hi⟩ := Option.bind_eq_some_iff.mp hi
  obtain ⟨hlt, hbase, hextra⟩ := baseIndex_spec hj
  have hj' : j < 29 := hlt
  rw [exec_of_table (shape_llInstr_length hj') hi, shapeMeaning, if_neg (by omega), if_neg (by omega), if_pos (by omega),
    Nat.add_sub_cancel_left, hbase, hextra, Nat.mod_eq_of_lt hx, BitVec.ofNat_toNat, BitVec.ofNat_toNat, lengthSymbol, hs]

/-- A distance symbol whose entry is latched already, with its extra field (R266). -/
theorem run_distEntry {e : Entry} {x : Nat} {s : State} (hx : x < 2 ^ (entryNX e).toNat)
    (hs : s.latchDist ((entryPayload e).setWidth 15) (entryNX e) = s) :
    (Fetched.ofInstr (distEntryInstr e x) s (finishDist x s)).run = finishDist x s := by
  refine run_ofInstr (fun i hi => ?_) fun _ => rfl
  obtain ⟨j, hj, hi⟩ := Option.bind_eq_some_iff.mp hi
  obtain ⟨hlt, hbase, hextra⟩ := baseIndex_spec hj
  have hj' : j < 30 := hlt
  rw [exec_of_table (shape_distInstr hj') hi, shapeMeaning, if_pos hj', hbase, hextra, Nat.mod_eq_of_lt hx,
    BitVec.ofNat_toNat, BitVec.ofNat_toNat, BitVec.setWidth_eq, distSymbol, hs]

/-- A literal's entry (R262). -/
theorem run_litEntry (e : Entry) (s : State) (o : Result) :
    (Fetched.ofInstr (litEntryInstr e) s o).run = literal (BitVec.ofNat 8 ((entryPayload e).toNat % 256)) s := by
  have hb : (entryPayload e).toNat % 256 < 256 := Nat.mod_lt _ (by decide)
  refine run_ofInstr (fun i hi => ?_) fun hn => ?_
  · rw [exec_of_table (shape_llInstr_literal hb) hi, shapeMeaning, if_pos hb]
  · have hl := shape_llInstr_literal hb
    rw [show llInstr ((entryPayload e).toNat % 256) 0 = none from hn] at hl
    cases hl

/-- A code-length symbol below 16 (R224). -/
theorem run_codeLength {n : Nat} (hn : n < 16) (s : State) (o : Result) :
    (Fetched.ofInstr (clInstr n 0) s o).run = codeLength (BitVec.ofNat 4 n) s := by
  have hl := shape_clInstr (x := 0) (show n < 19 by omega)
  refine run_ofInstr (fun i hi => ?_) fun hi => ?_
  · rw [exec_of_table hl hi, shapeMeaning, if_pos hn]
  · rw [hi] at hl
    cases hl

/-- A repeat symbol latched already, with its extra field (R226); symbol 16 has a predecessor. -/
theorem run_repeat {n x : Nat} (h16 : 16 ≤ n) (hn : n < 19) {s : State} (hi0 : n = 16 → s.loc.i ≠ 0)
    (hx : x < 2 ^ repeatExtra n)
    (hs : s.latchRepeat (BitVec.ofNat 5 n) = s) (o : Result) :
    (Fetched.ofInstr (clInstr n x) s o).run = applyRepeat x s := by
  have hl := shape_clInstr (x := x) hn
  refine run_ofInstr (fun i hi => ?_) fun hi => ?_
  · rw [exec_of_table hl hi, shapeMeaning, if_neg (by omega), if_neg (fun h => hi0 h.1 h.2), Nat.mod_eq_of_lt hx, hs]
  · rw [hi] at hl
    cases hl

/-- A reserved symbol, and any other code with no symbol (R110). -/
theorem run_reserved {i : Option Instr} (hi : ∀ j, i = some j → ∀ s, exec j s = badCode s) (s : State) :
    (Fetched.ofInstr i s (badCode s)).run = badCode s := run_ofInstr (fun j hj => hi j hj s) fun _ => rfl

theorem exec_llReserved {code L : Nat} {i : Instr} (h : llReserved code L = some i) (s : State) : exec i s = badCode s := by
  unfold llReserved at h
  split at h
  · cases h; rfl
  split at h
  · cases h; rfl
  · cases h

theorem exec_distReserved {code L : Nat} {i : Instr} (h : distReserved code L = some i) (s : State) :
    exec i s = badCode s := by
  unfold distReserved at h
  split at h
  · cases h; rfl
  split at h
  · cases h; rfl
  · cases h

/-! ### A symbol's pass behind its decoded code -/

/-- LL_SYM once a symbol is decoded (R261, R264). -/
def llRest (y : Symbol) (s : State) : Result :=
  match entryKind y.entry with
  | .lit => literal (BitVec.ofNat 8 ((entryPayload y.entry).toNat % 256)) s
  | .eob => endOfBlock s
  | .base =>
    (take ((entryNX y.entry).setWidth 3).toNat
        (s.latchLen ((entryPayload y.entry).setWidth 9) ((entryNX y.entry).setWidth 3))).run fun x t =>
          finishLength x.toNat t
  | .invalid => badCode s
  | _ => .next (s.raise .internalHuffmanState)

/-- DIST_SYM once a symbol is decoded (R265, R266). -/
def distRest (y : Symbol) (s : State) : Result :=
  match entryKind y.entry with
  | .base =>
    (take (entryNX y.entry).toNat (s.latchDist ((entryPayload y.entry).setWidth 15) (entryNX y.entry))).run
      fun x t => finishDist x.toNat t
  | .invalid => badCode s
  | _ => .next (s.raise .internalHuffmanState)

/-- DYN_LENS_SYM once a symbol is decoded (R224 to R227). -/
def clRest (y : Symbol) (s : State) : Result :=
  let sym := (entryPayload y.entry).toNat
  if entryKind y.entry ≠ .lit then .next (s.raise .internalHuffmanState)
  else if sym < 16 then codeLength (BitVec.ofNat 4 sym) s
  else if sym = 16 ∧ s.loc.i = 0 then .next (s.raise .badCodeLengthRepeat)
  else (take (repeatExtra sym) (s.latchRepeat (BitVec.ofNat 5 sym))).run fun x t =>
    if sym < 19 then applyRepeat x.toNat t else .next (t.raise .internalHuffmanState)

theorem run_congr {α : Type} {r : Res α} {k k' : α → State → Result} (h : ∀ a t, r = .val a t → k a t = k' a t) :
    r.run k = r.run k' := by
  cases r with
  | val a t => exact h a t rfl
  | stop o => rfl

/-- The field `Take(n)` answers has `n` bits (R133). -/
theorem take_lt {n : Nat} (hn : n ≤ 32) {s t : State} {x : Acc} (h : take n s = .val x t) : x.toNat < 2 ^ n := by
  rcases take_spec hn s with ⟨u, hu, -⟩ | ⟨o, ho, -⟩
  · obtain ⟨rfl, -⟩ := Res.val.inj (h.symm.trans hu)
    have hpos := Nat.two_pow_pos n
    rw [BitVec.toNat_and, BitVec.toNat_ofNat]
    exact (Nat.and_le_right.trans (Nat.mod_le _ _)).trans_lt (by omega)
  · exact nomatch h.symm.trans ho

/-- A read behind a latch leaves the latch as it is. -/
theorem BitFrame.eq_of_latched {f : State → State} {s t : State} (h : BitFrame s t) (hs : f s = s)
    (hf : ∀ b n p, f { s with bits := b, nbits := n, port := { s.port with srcPtr := p } } =
      { f s with bits := b, nbits := n, port := { (f s).port with srcPtr := p } }) : f t = t := by
  rw [h.same, hf, hs]

theorem run_fetchLL (s : State) : (fetchLL s).run = (decodeSym s.tab0 s).run llRest := by
  rw [fetchLL, run_fetch]
  refine run_congr fun y t _ => ?_
  unfold llRest
  cases entryKind y.entry with
  | lit => exact run_litEntry y.entry t _
  | base =>
    rw [run_fetch]
    refine run_congr fun x u hu => run_lengthEntry ?_ ?_
    · refine (take_lt (by omega) hu).trans_le (Nat.pow_le_pow_right (by decide) ?_)
      rw [BitVec.toNat_setWidth]
      exact Nat.mod_le _ _
    · exact ((take_frame (by omega) _).1 x u hu).eq_of_latched (f := (·.latchLen _ _)) rfl fun _ _ _ => rfl
  | invalid => exact run_reserved (fun j hj => exec_llReserved hj) t
  | _ => rfl

theorem run_fetchDist (s : State) : (fetchDist s).run = (decodeSym s.tab1 s).run distRest := by
  rw [fetchDist, run_fetch]
  refine run_congr fun y t _ => ?_
  unfold distRest
  cases entryKind y.entry with
  | base =>
    rw [run_fetch]
    refine run_congr fun x u hu => run_distEntry (take_lt (by omega) hu) ?_
    exact ((take_frame (by omega) _).1 x u hu).eq_of_latched (f := (·.latchDist _ _)) rfl fun _ _ _ => rfl
  | invalid => exact run_reserved (fun j hj => exec_distReserved hj) t
  | _ => rfl

/-- Symbol 16 with no predecessor (R225). -/
theorem run_noPredecessor {s : State} (h : s.loc.i = 0) (o : Result) :
    (Fetched.ofInstr (clInstr 16 0) s o).run = .next (s.raise .badCodeLengthRepeat) := by
  show exec (.clRepPrev 0) s = _
  rw [exec_eq_meaning]
  exact if_pos ⟨rfl, h⟩

theorem run_fetchCL {s : State} (hi : s.loc.i.toNat ≠ s.lensTotal) : (fetchCL s).run = (decodeSym s.tab0 s).run clRest := by
  rw [fetchCL, if_neg hi, run_fetch]
  refine run_congr fun y t _ => ?_
  unfold clRest
  generalize (entryPayload y.entry).toNat = sym
  dsimp only
  by_cases hk : entryKind y.entry ≠ .lit
  · rw [if_pos hk, if_pos hk]
    rfl
  rw [if_neg hk, if_neg hk]
  by_cases h16 : sym < 16
  · rw [if_pos (.inl h16), if_pos h16]
    exact run_codeLength h16 t _
  rw [if_neg h16]
  by_cases h0 : sym = 16 ∧ t.loc.i = 0
  · rw [if_pos (.inr h0), if_pos h0, h0.1]
    exact run_noPredecessor h0.2 _
  rw [if_neg (by tauto), if_neg h0, run_fetch]
  have h32 : repeatExtra sym ≤ 32 := (repeatExtra_le sym).trans (by decide)
  refine run_congr fun x u hu => ?_
  have hf := (take_frame h32 _).1 x u hu
  by_cases h19 : sym < 19
  · rw [if_pos h19]
    refine run_repeat (by omega) h19 (fun hs => ?_) (take_lt h32 hu) ?_ _
    · rw [hf.same]
      exact fun hz => h0 ⟨hs, hz⟩
    · exact hf.eq_of_latched (f := (·.latchRepeat _)) rfl fun _ _ _ => rfl
  · rw [if_neg h19]
    exact run_ofInstr (fun j hj => by simp [clInstr, clTable, h19] at hj) fun _ => rfl

end Sys2Proof.Machine
end
section
/-! PROOF. Split invariance at one suspension (R134, R350, R353): where a read ran out of input, the same read goes on from there; where
the output was full, the bytes left to put out are those still waiting in the state. -/

namespace Sys2Proof.Machine

/-! ### What ends with which suspension -/

/-- No next state of `o` has ended with `st`. -/
def NotEnding (st : Status) (o : Result) : Prop := ∀ u, o = .next u → ¬ u.EndedWith st

theorem notEnding_busy {st : Status} {t : State} (h : t.busy = true) : NotEnding st (.next t) := by
  rintro u hu ⟨hb, -⟩
  rw [← Host.Outcome.next.inj hu, h] at hb
  cases hb

theorem notEnding_finish {st : Status} {t : State} (h : t.port.status ≠ st) : NotEnding st (.next t) := by
  rintro u hu ⟨-, -, hs⟩
  exact h (Host.Outcome.next.inj hu ▸ hs)

/-- A move inside the engine suspends nothing. -/
theorem Inner.notEnding {op : State → Result} (h : Inner op) {s : State} (hs : s.busy = true) {st : Status}
    (hst : st = .shortRead ∨ st = .shortWrite) : NotEnding st (op s) := by
  obtain ⟨t, ht⟩ := h s
  rw [ht.answer]
  rcases ht.ends with hb | ⟨h1, h2⟩
  · exact notEnding_busy (hb.trans hs)
  · exact notEnding_finish (by rcases hst with rfl | rfl <;> assumption)

theorem inner_exec {i : Instr} (hi : Shape.inside i.shape) : Inner (exec i) := by
  rw [show exec i = shapeMeaning i.shape from funext (exec_eq_meaning i)]
  exact inner_shapeMeaning hi

theorem inside_decodeHeader (v : BitVec 3) : Shape.inside (decodeHeader v).shape := by
  unfold decodeHeader
  split <;> trivial

theorem inputExhausted_cases (s : State) :
    s.inputExhausted = s.suspend .shortRead ∨ s.inputExhausted = s.raise .truncatedInput := by
  unfold State.inputExhausted
  split
  · exact .inr rfl
  · exact .inl rfl

/-- A read does not end for want of room. -/
theorem ReadStop.notEnding {s : State} {o : Result} (h : ReadStop s o) : NotEnding .shortWrite o := by
  cases h with
  | exhausted t _ _ =>
    rcases inputExhausted_cases t with he | he <;> rw [he] <;> exact notEnding_finish (by simp)
  | bitCount t _ => exact notEnding_finish (by simp)
  | empty t _ => exact notEnding_finish (by simp)
  | noAddress => exact fun _ h => nomatch h

theorem notEnding_emit (st : Status) {s : State} (hs : s.busy = true) (b : Byte) {f : State → State} (hf : Local f) :
    NotEnding st (andThen (emit b s) fun t => .next (f t)) := by
  rcases emit_cases b s with ⟨-, he⟩ | ⟨-, he⟩ <;> rw [he]
  · exact notEnding_busy ((hf.busy _).trans hs)
  · exact fun _ h => nomatch h

theorem notEnding_litOut {s : State} (hs : s.busy = true) : NotEnding .shortRead (litOut s) := by
  unfold litOut
  split
  · exact notEnding_finish (by simp)
  · exact notEnding_emit _ hs _ local_toLLSym

theorem notEnding_execStoredByte {s : State} (hs : s.busy = true) (b : Byte) :
    NotEnding .shortRead (execStoredByte b s) := by
  unfold execStoredByte
  split
  · exact notEnding_finish (by simp)
  · exact notEnding_emit _ hs _ local_countByte

theorem notEnding_copyLoop (n : Nat) {s : State} (hs : s.busy = true) : NotEnding .shortRead (copyLoop n s) := fun t ht =>
  copyLoop_induct (P := fun u => u.busy = true) (Q := fun u => ¬ u.EndedWith .shortRead)
    (fun u hu => notEnding_busy (t := { u with fsm := .llSym }) hu _ rfl)
    (fun u _ _ => notEnding_finish (t := u.suspend .shortWrite) (by simp) _ rfl) (fun u hu _ => hu) n s t hs ht

theorem notEnding_finishDist (x : Nat) {s : State} (hs : s.busy = true) : NotEnding .shortRead (finishDist x s) := by
  unfold finishDist
  dsimp only
  split
  · exact notEnding_finish (by simp)
  · exact notEnding_copyLoop _ hs

/-! ### A read with more input -/

theorem unread_withInput (e : Nat) : Unread (·.withInput e) := ⟨fun _ => rfl, fun _ => rfl, fun _ _ => rfl, fun _ _ => rfl⟩

/-- A byte the engine could read it can read with more input behind it. -/
theorem refill_withInput {s t : State} {e : Nat} (h : refill s = .val () t) (hs : s.port.srcPtr ≤ s.port.srcEnd)
    (he : s.port.srcEnd ≤ e) : refill (s.withInput e) = .val () (t.withInput e) := by
  rcases refill_cases s with ⟨-, hr⟩ | ⟨-, -, hr⟩ | ⟨hn, hne, hsp, hr⟩ | ⟨-, -, -, hr⟩ <;> rw [hr] at h
  · cases h
  · cases h
  · obtain ⟨-, rfl⟩ := Res.val.inj h
    have hne' : (s.withInput e).port.srcPtr ≠ (s.withInput e).port.srcEnd := fun hc =>
      hne (hs.antisymm (he.trans_eq hc.symm))
    have hn' : ¬ 24 < (s.withInput e).nbits.toNat := Nat.not_lt.mpr hn
    have hsp' : (s.withInput e).inSpace (s.withInput e).port.srcPtr = true := hsp
    rw [refill, if_neg hn', if_neg hne', if_pos hsp']
    rfl
  · cases h

/-- A read that found its value finds the same value with more input. -/
theorem ReadsTo.extends {α : Type} {found : State → Option (Res α)} {e : Nat} (hfound : SameFound (·.withInput e) found)
    {s t : State} {a : α} (h : ReadsTo found s (.val a t)) (hs : s.port.srcPtr ≤ s.port.srcEnd) (he : s.port.srcEnd ≤ e) :
    ReadsTo found (s.withInput e) (.val a (t.withInput e)) := by
  generalize hr : Res.val a t = r at h
  induction h with
  | done h => exact .done (by rw [hfound, h, ← hr]; rfl)
  | stop h _ => cases hr
  | more h hrf _ ih =>
    have hf := bitFrame_of_refill hrf
    refine .more (by rw [hfound, h]; rfl) (refill_withInput hrf hs he) (ih ?_ ?_ hr) <;> rw [hf.still.srcEnd]
    · exact hf.inside hs
    · exact he

/-- A read that ran out of input goes on, with more of it, as the read from the start does. -/
theorem ReadsTo.resumes {α : Type} {found : State → Option (Res α)} {e : Nat} (hfound : SameFound (·.withInput e) found)
    (hstop : ∀ s o, found s = some (.stop o) → NotEnding .shortRead o) {s u : State} (h : ReadsTo found s (.stop (.next u)))
    (hu : u.EndedWith .shortRead) (he : s.port.srcEnd ≤ e) :
    ∃ t, BitFrame s t ∧ u = t.suspend .shortRead ∧ t.port.srcPtr = s.port.srcEnd ∧
      ∀ r, ReadsTo found (t.withInput e) r → ReadsTo found (s.withInput e) r := by
  generalize hr : Res.stop (.next u) = r at h
  induction h with
  | done h => exact absurd hu (hstop _ _ (hr ▸ h) u rfl)
  | @stop s o h hrf =>
    obtain rfl := Res.stop.inj hr
    rcases refill_cases s with ⟨-, hr⟩ | ⟨-, hend, hr⟩ | ⟨-, -, -, hr⟩ | ⟨-, -, -, hr⟩ <;> rw [hr] at hrf
    · cases hrf
      exact absurd hu (notEnding_finish (t := s.raise .internalBitCount) (by simp) _ rfl)
    · cases hrf
      rcases inputExhausted_cases s with hx | hx <;> rw [hx] at hu ⊢
      · exact ⟨s, .refl s, rfl, hend, fun _ => id⟩
      · exact absurd hu (notEnding_finish (t := s.raise .truncatedInput) (by simp) _ rfl)
    · cases hrf
    · cases hrf
  | @more s s1 r h hrf _ ih =>
    have hf := bitFrame_of_refill hrf
    have hend : s1.port.srcEnd = s.port.srcEnd := hf.still.srcEnd
    obtain ⟨t, ht, hut, hte, hgo⟩ := ih (hend ▸ he) hr
    have hs : s.port.srcPtr ≤ s.port.srcEnd := hend ▸ hte ▸ hf.moved.trans ht.moved
    exact ⟨t, hf.trans ht, hut, hte.trans hend, fun r k => .more (by rw [hfound, h]; rfl) (refill_withInput hrf hs he)
      (hgo r k)⟩

theorem decodeSym_extends {tab : Table} {s t : State} {y : Symbol} {e : Nat} (h : decodeSym tab s = .val y t)
    (hs : s.port.srcPtr ≤ s.port.srcEnd) (he : s.port.srcEnd ≤ e) : decodeSym tab (s.withInput e) = .val y (t.withInput e) :=
  (decodeSym_readsTo tab _).unique (ReadsTo.extends ((unread_withInput e).symFound tab) (h ▸ decodeSym_readsTo tab s) hs he)

theorem takeFound_notEnding (n : Nat) (s : State) (o : Result) (h : takeFound n s = some (.stop o)) :
    NotEnding .shortRead o := by
  unfold takeFound at h
  split at h <;> cases h

theorem symFound_notEnding (tab : Table) (s : State) (o : Result) (h : symFound tab s = some (.stop o)) :
    NotEnding .shortRead o := by
  unfold symFound at h
  split at h
  · cases h
    exact notEnding_finish (by simp)
  · split at h <;> cases h

theorem take_resumes {n : Nat} (hn : n ≤ 32) {s u : State} {e : Nat} (h : take n s = .stop (.next u))
    (hu : u.EndedWith .shortRead) (he : s.port.srcEnd ≤ e) :
    ∃ t, BitFrame s t ∧ u = t.suspend .shortRead ∧ t.port.srcPtr = s.port.srcEnd ∧
      take n (t.withInput e) = take n (s.withInput e) := by
  obtain ⟨t, ht, hut, hte, hgo⟩ :=
    ReadsTo.resumes ((unread_withInput e).takeFound n) (takeFound_notEnding n) (h ▸ take_readsTo hn s) hu he
  exact ⟨t, ht, hut, hte, (hgo _ (take_readsTo hn _)).unique (take_readsTo hn _)⟩

theorem decodeSym_resumes {tab : Table} {s u : State} {e : Nat} (h : decodeSym tab s = .stop (.next u))
    (hu : u.EndedWith .shortRead) (he : s.port.srcEnd ≤ e) :
    ∃ t, BitFrame s t ∧ u = t.suspend .shortRead ∧ t.port.srcPtr = s.port.srcEnd ∧
      decodeSym tab (t.withInput e) = decodeSym tab (s.withInput e) := by
  obtain ⟨t, ht, hut, hte, hgo⟩ :=
    ReadsTo.resumes ((unread_withInput e).symFound tab) (symFound_notEnding tab) (h ▸ decodeSym_readsTo tab s) hu he
  exact ⟨t, ht, hut, hte, (hgo _ (decodeSym_readsTo tab _)).unique (decodeSym_readsTo tab _)⟩

end Sys2Proof.Machine
end
section
/-! PROOF. The reads of a pass by FSM state, and the two halves of split invariance (R350, R353). -/

namespace Sys2Proof.Machine

/-! ### The reads of a pass -/

/-- What a pass takes from the stream, where it is a field of fixed or latched width, and how it goes on (R341). -/
def fieldRead (s : State) : Option (Nat × (Acc → State → Result)) :=
  match s.fsm with
  | .hdr => some (3, fun v t => exec (decodeHeader (v.setWidth 3)) t)
  | .storedLen => some (32, fun v t => exec (decodeStoredLen v) t)
  | .dynHdr => some (14, fun v t => exec (decodeDynHdr (v.setWidth 14)) t)
  | .dynCll =>
    if s.loc.i.toNat < s.loc.hclen.toNat then some (3, fun v t => exec (.cll (v.setWidth 3)) { t with inLoop := true })
      else none
  | .dynLensExtra =>
    if repeatExtra s.loc.repsym.toNat = 0 then none
      else some (repeatExtra s.loc.repsym.toNat, fun x t => applyRepeat x.toNat t)
  | .lenExtra => some (s.loc.lnx.toNat, fun x t => finishLength x.toNat t)
  | .distExtra => some (s.loc.dnx.toNat, fun x t => finishDist x.toNat t)
  | _ => none

/-- The table a pass decodes a symbol with, and how it goes on (R341). -/
def symbolRead (s : State) : Option (Table × (Symbol → State → Result)) :=
  match s.fsm with
  | .dynLensSym => if s.loc.i.toNat = s.lensTotal then none else some (s.tab0, clRest)
  | .llSym => some (s.tab0, llRest)
  | .distSym => some (s.tab1, distRest)
  | _ => none

theorem fieldRead_spec {s : State} {n : Nat} {k : Acc → State → Result} (h : fieldRead s = some (n, k)) :
    n ≤ 32 ∧ (fetchElement s).run = (take n s).run k := by
  unfold fieldRead at h
  split at h
  next hf => cases h; simp only [fetchElement, hf, run_fetch]; exact ⟨by omega, rfl⟩
  next hf => cases h; simp only [fetchElement, hf, run_fetch]; exact ⟨by omega, rfl⟩
  next hf => cases h; simp only [fetchElement, hf, run_fetch]; exact ⟨by omega, rfl⟩
  next hf =>
    split at h
    next hi => cases h; simp only [fetchElement, fetchCll, hf, hi, if_true, run_fetch]; exact ⟨by omega, rfl⟩
    next => cases h
  next hf =>
    have := repeatExtra_le s.loc.repsym.toNat
    split at h
    next => cases h
    next hi => cases h; simp only [fetchElement, resumeRepeat, hf, hi, if_false, run_fetch]; exact ⟨by omega, rfl⟩
  next hf => cases h; simp only [fetchElement, hf, run_fetch]; exact ⟨by omega, rfl⟩
  next hf => cases h; simp only [fetchElement, hf, run_fetch]; exact ⟨by omega, rfl⟩
  next => cases h

theorem symbolRead_spec {s : State} {tab : Table} {k : Symbol → State → Result} (h : symbolRead s = some (tab, k)) :
    (fetchElement s).run = (decodeSym tab s).run k := by
  unfold symbolRead at h
  split at h
  next hf =>
    split at h
    next => cases h
    next hi => cases h; simp only [fetchElement, hf]; exact run_fetchCL hi
  next hf => cases h; simp only [fetchElement, hf]; exact run_fetchLL s
  next hf => cases h; simp only [fetchElement, hf]; exact run_fetchDist s
  next => cases h

/-- Past its field no pass ends for want of input. -/
theorem fieldRead_notEnding {s : State} {n : Nat} {k : Acc → State → Result} (h : fieldRead s = some (n, k)) (x : Acc)
    {t : State}
    (ht : t.busy = true) : NotEnding .shortRead (k x t) := by
  unfold fieldRead at h
  split at h
  next => cases h; exact (inner_exec (inside_decodeHeader _)).notEnding ht (.inl rfl)
  next => cases h; exact (inner_exec (i := decodeStoredLen x) trivial).notEnding ht (.inl rfl)
  next => cases h; exact (inner_exec (i := decodeDynHdr _) trivial).notEnding ht (.inl rfl)
  next =>
    split at h <;> cases h
    exact (inner_exec (i := .cll _) trivial).notEnding (s := { t with inLoop := true }) ht (.inl rfl)
  next =>
    split at h <;> cases h
    exact (inner_applyRepeat _).notEnding ht (.inl rfl)
  next => cases h; exact (inner_finishLength _).notEnding ht (.inl rfl)
  next => cases h; exact notEnding_finishDist _ ht
  next => cases h

/-- A pass that reads neither a field, a symbol nor a stored byte does not end for want of input, nor for want of room but where it
puts bytes out. -/
theorem move_notEnding {s : State} (hs : s.busy = true) (h1 : fieldRead s = none) (h2 : symbolRead s = none)
    (h3 : s.fsm ≠ .storedCopy) {st : Status} (hst : st = .shortRead ∨ st = .shortWrite ∧ s.fsm ≠ .litOut ∧ s.fsm ≠ .copy) :
    NotEnding st (fetchElement s).run := by
  have hst' : st = .shortRead ∨ st = .shortWrite := hst.imp_right And.left
  unfold fieldRead at h1
  unfold symbolRead at h2
  cases hf : s.fsm <;> simp only [hf, fetchElement] at h1 h2 h3 ⊢
  case fixedInit => exact inner_fixedInit.notEnding hs hst'
  case dynCll =>
    split at h1
    next => cases h1
    next hi => rw [fetchCll, if_neg hi]; exact inner_cllDone.notEnding hs hst'
  case dynLensSym =>
    split at h2
    next hi => rw [fetchCL, if_pos hi]; exact notEnding_busy hs
    next => cases h2
  case dynLensExtra =>
    split at h1
    next hi => rw [resumeRepeat, if_pos hi]; exact (Inner.raise (by decide)).notEnding hs hst'
    next => cases h1
  case dynBuild => exact inner_dynBuild.notEnding hs hst'
  case litOut =>
    obtain rfl : st = .shortRead := hst.resolve_right fun h => h.2.1 hf
    exact notEnding_litOut hs
  case copy =>
    obtain rfl : st = .shortRead := hst.resolve_right fun h => h.2.2 hf
    exact notEnding_copyLoop _ hs
  case blockEnd => exact inner_blockEnd.notEnding hs hst'
  case done => exact inner_finish_ok.notEnding hs hst'
  case storedCopy => exact absurd rfl h3
  case llSym | distSym => cases h2
  case hdr | storedLen | dynHdr | lenExtra | distExtra => cases h1

/-! ### The reissued state -/

/-- `t` is where the pass of `s` stopped: under the same control, and inside a state's loop only where that state is. -/
structure StoppedAt (s t : State) : Prop where
  busy : t.busy = s.busy
  decoding : t.decoding = s.decoding
  interleaved : t.interleaved = s.interleaved
  par : t.par = s.par
  status : t.port.status = s.port.status
  loop : t.inLoop = true → t.fsm = .dynCll ∨ t.fsm = .storedCopy

theorem BitFrame.stoppedAt {s t : State} (h : BitFrame s t) (hl : s.inLoop = true → s.fsm = .dynCll ∨ s.fsm = .storedCopy) :
    StoppedAt s t := by
  rw [h.same]
  exact ⟨rfl, rfl, rfl, rfl, rfl, hl⟩

/-- The same state, its loop not begun. -/
def State.leaveLoop (s : State) : State := { s with inLoop := false }

theorem leaveLoop_of_not {s : State} (h : s.inLoop = false) : s.leaveLoop = s := by
  rw [State.leaveLoop, ← h]

theorem unread_leaveLoop : Unread State.leaveLoop := ⟨fun _ => rfl, fun _ => rfl, fun _ _ => rfl, fun _ _ => rfl⟩

theorem inputExhausted_leaveLoop (s : State) :
    s.leaveLoop.inputExhausted = s.inputExhausted ∧ s.inputExhausted.leaveLoop = s.inputExhausted := by
  unfold State.inputExhausted
  exact ⟨if_congr .rfl rfl rfl, by split <;> rfl⟩

theorem ReadStop.leaveLoop {s : State} {o : Result} (h : ReadStop s o) : mapNext State.leaveLoop o = o := by
  cases h with
  | exhausted t _ _ => exact congrArg Host.Outcome.next (inputExhausted_leaveLoop t).2
  | bitCount t _ => rfl
  | empty t _ => rfl
  | noAddress => rfl

theorem refill_leaveLoop (s : State) : refill s.leaveLoop = (refill s).map State.leaveLoop :=
  have hx := inputExhausted_leaveLoop s
  ite_both (R := fun r r' : Res Unit => r' = r.map State.leaveLoop) .rfl (fun _ => rfl) fun _ =>
    ite_both (R := fun r r' : Res Unit => r' = r.map State.leaveLoop) .rfl
      (fun _ => congrArg (fun t => Res.stop (.next t)) (hx.1.trans hx.2.symm)) fun _ =>
        ite_both (R := fun r r' : Res Unit => r' = r.map State.leaveLoop) .rfl (fun _ => rfl) fun _ => rfl

theorem take_leaveLoop {n : Nat} (hn : n ≤ 32) (s : State) : take n s.leaveLoop = (take n s).map State.leaveLoop :=
  (take_readsTo hn _).unique
    ((take_readsTo hn s).map (unread_leaveLoop.takeFound n) (P := fun _ => True) (fun _ _ _ _ => trivial)
      (fun t _ => refill_leaveLoop t) trivial)

theorem clearTail_leaveLoop (s : State) (ks : List Nat) : s.leaveLoop.clearTail ks = (s.clearTail ks).leaveLoop := by
  induction ks generalizing s with
  | nil => rfl
  | cons k ks ih => exact ih (s.setLen k 0)

theorem cllDone_leaveLoop (s : State) : cllDone s.leaveLoop = cllDone s := by
  have hc := clearTail_leaveLoop s (clOrder.drop s.loc.hclen.toNat)
  unfold cllDone buildTab0
  dsimp only
  rw [show s.leaveLoop.loc = s.loc from rfl, hc]
  generalize s.clearTail (clOrder.drop s.loc.hclen.toNat) = t
  rw [show t.leaveLoop.lensFrom 0 19 = t.lensFrom 0 19 from rfl, show t.leaveLoop.par = t.par from rfl]
  cases build t.par .cl (t.lensFrom 0 19) <;> rfl

/-- A pass of a state that has its own loop does not look whether the loop has begun. -/
theorem run_leaveLoop {s : State} (h : s.inLoop = true → s.fsm = .dynCll ∨ s.fsm = .storedCopy) :
    (fetchElement s.leaveLoop).run = (fetchElement s).run := by
  cases hi : s.inLoop with
  | false => rw [leaveLoop_of_not hi]
  | true =>
    rcases h hi with hf | hf
    · have hf' : s.leaveLoop.fsm = .dynCll := hf
      simp only [fetchElement, hf, hf']
      refine ite_both (R := fun F F' : Fetched => F.run = F'.run) .rfl (fun _ => ?_) fun _ => cllDone_leaveLoop s
      rw [run_fetch, run_fetch, take_leaveLoop (by omega)]
      cases hr : take 3 s with
      | val x t => rfl
      | stop o => exact ((take_frame (by omega) s).2 o hr).leaveLoop
    · have hf' : s.leaveLoop.fsm = .storedCopy := hf
      simp only [fetchElement, hf, hf']
      exact ite_both (R := fun F F' : Fetched => F.run = F'.run) .rfl (fun _ => rfl) fun _ =>
        ite_both (R := fun F F' : Fetched => F.run = F'.run) .rfl (fun _ => rfl) fun _ =>
          ite_both (R := fun F F' : Fetched => F.run = F'.run) .rfl
            (fun _ => congrArg Host.Outcome.next (inputExhausted_leaveLoop s).1) fun _ =>
              ite_both (R := fun F F' : Fetched => F.run = F'.run) .rfl (fun _ => rfl) fun _ => rfl

theorem reissued_suspend {s t : State} (hs : s.Decoding) (h : StoppedAt s t) (st : Status) :
    (t.suspend st).reissued s = t.leaveLoop := by
  obtain ⟨hb, hd, hi⟩ := hs
  have hb' := h.busy.trans hb
  have hd' := h.decoding.trans hd
  have hi' := h.interleaved.trans hi
  have hst := h.status
  rcases t with ⟨_, _, _, _, _, _, _, _, _, _, _, _, _, _, _, _, _, _, ⟨_, _, _, _, _, _, _, _, _, _, _, _, _⟩⟩
  simp_all [State.reissued, State.suspend, State.finish, State.leaveLoop]

/-- A step where the pass of `s` stopped, its loop not begun, is the pass from there (R376). -/
theorem step_leaveLoop {s t : State} (hs : s.Decoding) (hfast : s.par.fast = false) (h : StoppedAt s t) :
    step t.leaveLoop = (fetchElement t).run := by
  have hd : t.leaveLoop.Decoding := ⟨h.busy.trans hs.1, h.decoding.trans hs.2.1, h.interleaved.trans hs.2.2⟩
  have hf : t.leaveLoop.fastReady = false := by
    have hp : t.leaveLoop.par.fast = false := (congrArg Params.fast h.par).trans hfast
    simp [State.fastReady, hp]
  rw [step_eq_run hd hf, run_leaveLoop h.loop]

/-! ### More input -/

theorem take_zero (s : State) : take 0 s = .val (s.bits &&& BitVec.ofNat 32 (2 ^ 0 - 1)) (s.consume 0) := rfl

/-- A field whose read ran out of input is read again from there. -/
theorem field_resumes {n : Nat} (hn : n ≤ 32) {k : Acc → State → Result} {s u : State} {e : Nat}
    (h : (take n s).run k = .next u)
    (hu : u.EndedWith .shortRead) (he : s.port.srcEnd ≤ e) (hk : ∀ x t, BitFrame s t → NotEnding .shortRead (k x t)) :
    ∃ t, BitFrame s t ∧ u = t.suspend .shortRead ∧ t.port.srcPtr = s.port.srcEnd ∧
      take n (t.withInput e) = take n (s.withInput e) := by
  cases hr : take n s with
  | val x t =>
    rw [hr] at h
    exact absurd hu (hk x t ((take_frame hn s).1 x t hr) u h)
  | stop o =>
    rw [hr] at h
    subst h
    exact take_resumes hn hr hu he

/-- The extra field behind a latch `w` that ran out of input: the latched state reads it again. -/
theorem latched_resumes {s t w u : State} {n : Nat} {k : Acc → State → Result} {e : Nat} (hst : BitFrame s t)
    (hw : w = { t with fsm := w.fsm, loc := w.loc }) (hl : s.inLoop = false) (hn : n ≤ 32)
    (hread : ∀ v, BitFrame w v → fieldRead (v.withInput e) = some (n, k)) (h : (take n w).run k = .next u)
    (hu : u.EndedWith .shortRead) (he : s.port.srcEnd ≤ e) (hk : ∀ x v, BitFrame w v → NotEnding .shortRead (k x v)) :
    ∃ v, StoppedAt s v ∧ u = v.suspend .shortRead ∧ t.port.srcPtr ≤ s.port.srcEnd ∧
      (fetchElement (v.withInput e)).run = (take n (w.withInput e)).run k := by
  have hend : w.port.srcEnd = s.port.srcEnd := by rw [hw]; exact hst.still.srcEnd
  obtain ⟨v, hv, huv, hve, hgo⟩ := field_resumes hn h hu (hend ▸ he) hk
  refine ⟨v, ?_, huv, ?_, ?_⟩
  · have hsw : StoppedAt s w := by
      rw [hw, hst.same]
      exact ⟨rfl, rfl, rfl, rfl, rfl, fun hi => by rw [hl] at hi; cases hi⟩
    rw [hv.same]
    exact ⟨hsw.busy, hsw.decoding, hsw.interleaved, hsw.par, hsw.status, hsw.loop⟩
  · have htw : t.port.srcPtr = w.port.srcPtr := by rw [hw]
    exact htw ▸ hend ▸ hve ▸ hv.moved
  · rw [(fieldRead_spec (hread v hv)).2, hgo]

/-- A repeat symbol's extra field that ran out of input (R226). -/
theorem clRest_resumes {s t u : State} {e : Nat} (hst : BitFrame s t) (htb : t.busy = true) (hl : s.inLoop = false)
    {y : Symbol} (h : clRest y t = .next u) (hu : u.EndedWith .shortRead) (he : s.port.srcEnd ≤ e) :
    ∃ v, StoppedAt s v ∧ u = v.suspend .shortRead ∧ t.port.srcPtr ≤ s.port.srcEnd ∧
      (fetchElement (v.withInput e)).run = clRest y (t.withInput e) := by
  unfold clRest at h ⊢
  generalize (entryPayload y.entry).toNat = sym at h ⊢
  dsimp only at h ⊢
  by_cases hkind : entryKind y.entry ≠ .lit
  · rw [if_pos hkind] at h
    exact absurd hu (notEnding_finish (t := t.raise _) (by simp) u h)
  rw [if_neg hkind] at h ⊢
  by_cases h16 : sym < 16
  · rw [if_pos h16] at h
    exact absurd hu ((inner_codeLength _).notEnding htb (.inl rfl) u h)
  rw [if_neg h16] at h ⊢
  by_cases h0 : sym = 16 ∧ t.loc.i = 0
  · rw [if_pos h0] at h
    exact absurd hu (notEnding_finish (t := t.raise _) (by simp) u h)
  have h0' : ¬ (sym = 16 ∧ (t.withInput e).loc.i = 0) := h0
  rw [if_neg h0] at h
  rw [if_neg h0']
  by_cases h19 : sym < 19
  · simp only [if_pos h19] at h ⊢
    have hsym : (BitVec.ofNat 5 sym).toNat = sym := Nat.mod_eq_of_lt (by omega)
    have hne : repeatExtra sym ≠ 0 := by
      have hcases : sym = 16 ∨ sym = 17 ∨ sym = 18 := by omega
      rcases hcases with rfl | rfl | rfl <;> decide
    refine latched_resumes hst rfl hl ((repeatExtra_le sym).trans (by decide)) (fun v hv => ?_) h hu he fun x v hv =>
      (inner_applyRepeat x.toNat).notEnding (by rw [hv.same]; exact htb) (.inl rfl)
    rw [hv.same]
    have hr : repeatExtra (BitVec.ofNat 5 sym).toNat = repeatExtra sym := by rw [hsym]
    exact (if_neg (hr ▸ hne)).trans (congrArg (fun n => some (n, fun (x : Acc) v => applyRepeat x.toNat v)) hr)
  · have hz : repeatExtra sym = 0 := by
      rw [repeatExtra, if_neg (by omega), if_neg (by omega), if_neg (by omega)]
    rw [hz, take_zero] at h
    simp only [Res.run, if_neg h19] at h
    exact absurd hu (notEnding_finish (t := State.raise _ _) (by simp) u h)

/-- A symbol's extra field that ran out of input: the latched state reads it again (R226, R264, R266). -/
theorem rest_resumes {s t u : State} {tab : Table} {k : Symbol → State → Result} {e : Nat}
    (hk : symbolRead s = some (tab, k))
    (hst : BitFrame s t) (hb : s.busy = true) (hl : s.inLoop = true → s.fsm = .dynCll ∨ s.fsm = .storedCopy)
    {y : Symbol} (h : k y t = .next u) (hu : u.EndedWith .shortRead) (he : s.port.srcEnd ≤ e) :
    ∃ v, StoppedAt s v ∧ u = v.suspend .shortRead ∧ t.port.srcPtr ≤ s.port.srcEnd ∧
      (fetchElement (v.withInput e)).run = k y (t.withInput e) := by
  have htb : t.busy = true := (congrArg State.busy hst.same).trans hb
  unfold symbolRead at hk
  split at hk
  next hf =>
    have hl' : s.inLoop = false := by simpa [hf] using hl
    split at hk <;> cases hk
    exact clRest_resumes hst htb hl' h hu he
  next hf =>
    have hl' : s.inLoop = false := by simpa [hf] using hl
    cases hk
    cases hkind : entryKind y.entry with
    | base =>
      simp only [llRest, hkind] at h ⊢
      refine latched_resumes hst rfl hl' (by omega) (fun v hv => ?_) h hu he fun x v hv =>
        (inner_finishLength x.toNat).notEnding (by rw [hv.same]; exact htb) (.inl rfl)
      rw [hv.same]
      rfl
    | lit =>
      simp only [llRest, hkind] at h
      exact absurd hu (notEnding_litOut (s := { t with loc := _, fsm := .litOut }) htb u h)
    | eob =>
      simp only [llRest, hkind] at h
      exact absurd hu (inner_endOfBlock.notEnding htb (.inl rfl) u h)
    | _ =>
      simp only [llRest, hkind] at h
      exact absurd hu (notEnding_finish (t := t.raise _) (by simp) u h)
  next hf =>
    have hl' : s.inLoop = false := by simpa [hf] using hl
    cases hk
    cases hkind : entryKind y.entry with
    | base =>
      simp only [distRest, hkind] at h ⊢
      refine latched_resumes hst rfl hl' (by omega) (fun v hv => ?_) h hu he fun x v hv =>
        notEnding_finishDist x.toNat (by rw [hv.same]; exact htb)
      rw [hv.same]
      rfl
    | _ =>
      simp only [distRest, hkind] at h
      exact absurd hu (notEnding_finish (t := t.raise _) (by simp) u h)
  next => cases hk

/-- A stored byte that is not there yet (R195). -/
theorem stored_exhausted {s u : State} (hs : s.busy = true) (hf : s.fsm = .storedCopy) (h : (fetchElement s).run = .next u)
    (hu : u.EndedWith .shortRead) : u = s.suspend .shortRead := by
  have hfetch : fetchElement s = fetchStored s := by simp only [fetchElement, hf]
  rw [hfetch, fetchStored] at h
  split at h
  · exact absurd hu (notEnding_busy (t := { s with fsm := .blockEnd, inLoop := false }) hs u h)
  split at h
  · exact absurd hu (notEnding_finish (t := s.suspend .shortWrite) (by simp) u h)
  split at h
  · rcases inputExhausted_cases s with he | he <;> rw [he] at h
    · exact (Host.Outcome.next.inj h).symm
    · exact absurd hu (notEnding_finish (t := s.raise .truncatedInput) (by simp) u h)
  split at h
  · exact absurd hu (notEnding_execStoredByte
      (s := { s with inLoop := true, port := { s.port with srcPtr := s.port.srcPtr + 1 } }) hs _ u h)
  · cases h

/-- A pass that ran out of input stopped at a state whose pass, with more input, is the pass with all of it from the start. -/
theorem element_resumes {s u : State} {e : Nat} (hs : s.busy = true)
    (hl : s.inLoop = true → s.fsm = .dynCll ∨ s.fsm = .storedCopy) (h : (fetchElement s).run = .next u)
    (hu : u.EndedWith .shortRead) (he : s.port.srcEnd ≤ e) :
    ∃ t, StoppedAt s t ∧ u = t.suspend .shortRead ∧
      (fetchElement (t.withInput e)).run = (fetchElement (s.withInput e)).run := by
  cases hp : fieldRead s with
  | some p =>
    obtain ⟨n, k⟩ := p
    obtain ⟨hn, hrun⟩ := fieldRead_spec hp
    obtain ⟨t, ht, hut, -, hread⟩ := field_resumes hn (hrun.symm.trans h) hu he fun x t ht =>
      fieldRead_notEnding hp x ((congrArg State.busy ht.same).trans hs)
    have ht' : fieldRead (t.withInput e) = some (n, k) := by
      rw [ht.same]
      exact hp
    refine ⟨t, ht.stoppedAt hl, hut, ?_⟩
    rw [(fieldRead_spec ht').2, hread, (fieldRead_spec (s := s.withInput e) hp).2]
  | none =>
    cases hq : symbolRead s with
    | some p =>
      obtain ⟨tab, k⟩ := p
      have hrun := symbolRead_spec hq
      rw [h] at hrun
      cases hr : decodeSym tab s with
      | stop o =>
        rw [hr] at hrun
        obtain ⟨t, ht, hut, -, hread⟩ := decodeSym_resumes (hr.trans (congrArg Res.stop hrun.symm)) hu he
        have ht' : symbolRead (t.withInput e) = some (tab, k) := by
          rw [ht.same]
          exact hq
        refine ⟨t, ht.stoppedAt hl, hut, ?_⟩
        rw [symbolRead_spec ht', hread, symbolRead_spec (s := s.withInput e) hq]
      | val y t =>
        rw [hr] at hrun
        have ht := (decodeSym_frame tab s).1 y t hr
        obtain ⟨v, hv, huv, hle, hrest⟩ := rest_resumes hq ht hs hl hrun.symm hu he
        refine ⟨v, hv, huv, ?_⟩
        rw [hrest, symbolRead_spec (s := s.withInput e) hq, decodeSym_extends hr (ht.moved.trans hle) he]
        rfl
    | none =>
      have hc : s.fsm = .storedCopy := by
        by_contra hc
        exact move_notEnding hs hp hq hc (.inl rfl) u h hu
      exact ⟨s, (BitFrame.refl s).stoppedAt hl, stored_exhausted hs hc h hu, rfl⟩

end Sys2Proof.Machine
end
section
/-! PROOF. Split invariance on output (R262, R302, R350): the byte that waits in LIT, and the bytes REM still counts, go out when there is
room; then both halves together. -/

namespace Sys2Proof.Machine

/-! ### Reads do not see the end of the output -/

theorem unread_withOutput (e : Nat) : Unread (·.withOutput e) := ⟨fun _ => rfl, fun _ => rfl, fun _ _ => rfl, fun _ _ => rfl⟩

theorem inputExhausted_withOutput (s : State) (e : Nat) :
    (s.withOutput e).inputExhausted = s.inputExhausted.withOutput e := by
  rw [State.inputExhausted, State.inputExhausted, apply_ite (State.withOutput · e)]
  rfl

theorem refill_withOutput (s : State) (e : Nat) : refill (s.withOutput e) = (refill s).map (·.withOutput e) :=
  ite_both (R := fun r r' : Res Unit => r' = r.map (·.withOutput e)) .rfl (fun _ => rfl) fun _ =>
    ite_both (R := fun r r' : Res Unit => r' = r.map (·.withOutput e)) .rfl
      (fun _ => congrArg (fun t => Res.stop (.next t)) (inputExhausted_withOutput s e)) fun _ =>
        ite_both (R := fun r r' : Res Unit => r' = r.map (·.withOutput e)) .rfl (fun _ => rfl) fun _ => rfl

theorem take_withOutput {n : Nat} (hn : n ≤ 32) (s : State) (e : Nat) :
    take n (s.withOutput e) = (take n s).map (·.withOutput e) :=
  (take_readsTo hn _).unique
    ((take_readsTo hn s).map ((unread_withOutput e).takeFound n) (P := fun _ => True) (fun _ _ _ _ => trivial)
      (fun t _ => refill_withOutput t e) trivial)

theorem decodeSym_withOutput (tab : Table) (s : State) (e : Nat) :
    decodeSym tab (s.withOutput e) = (decodeSym tab s).map (·.withOutput e) :=
  (decodeSym_readsTo tab _).unique
    ((decodeSym_readsTo tab s).map ((unread_withOutput e).symFound tab) (P := fun _ => True) (fun _ _ _ _ => trivial)
      (fun t _ => refill_withOutput t e) trivial)

/-! ### Full outputs -/

theorem StoppedAt.refl {s : State} (hl : s.inLoop = true → s.fsm = .dynCll ∨ s.fsm = .storedCopy) : StoppedAt s s :=
  ⟨rfl, rfl, rfl, rfl, rfl, hl⟩

theorem StoppedAt.trans {s t v : State} (h : StoppedAt s t) (k : StoppedAt t v) : StoppedAt s v :=
  ⟨k.busy.trans h.busy, k.decoding.trans h.decoding, k.interleaved.trans h.interleaved, k.par.trans h.par,
    k.status.trans h.status,
    k.loop⟩

/-- Where `o` found the output full, the pass from where it stopped, with the output ending at `e`, answers `o'`. -/
def ResumesOutput (e : Nat) (s : State) (o o' : Result) : Prop :=
  ∀ u, o = .next u → u.EndedWith .shortWrite →
    ∃ t, StoppedAt s t ∧ u = t.suspend .shortWrite ∧ (fetchElement (t.withOutput e)).run = o'

theorem NotEnding.resumesOutput {e : Nat} {s : State} {o o' : Result} (h : NotEnding .shortWrite o) :
    ResumesOutput e s o o' :=
  fun u hu hend => absurd hend (h u hu)

theorem ResumesOutput.after {e : Nat} {s t : State} {o o' : Result} (h : ResumesOutput e t o o') (k : StoppedAt s t) :
    ResumesOutput e s o o' := fun u hu hend =>
  let ⟨v, hv, huv, hrun⟩ := h u hu hend
  ⟨v, k.trans hv, huv, hrun⟩

theorem resumesOutput_litOut {s : State} (hb : s.busy = true) (hf : s.fsm = .litOut) (hl : s.inLoop = false) (e : Nat) :
    ResumesOutput e s (litOut s) (litOut (s.withOutput e)) := by
  intro u hu hend
  rw [litOut] at hu
  split at hu
  · have hrun : (fetchElement (s.withOutput e)).run = litOut (s.withOutput e) := by
      have hf' : (s.withOutput e).fsm = .litOut := hf
      simp only [fetchElement, hf']
      rfl
    exact ⟨s, .refl (by simp [hl]), (Host.Outcome.next.inj hu).symm, hrun⟩
  · exact absurd hend (notEnding_emit _ hb _ local_toLLSym u hu)

/-- A copy that found the output full has REM bytes left, and copies them from there (R302). -/
theorem copyLoop_resumes {n : Nat} {s u : State} {e : Nat} (hn : s.loc.rem.toNat = n) (h : copyLoop n s = .next u)
    (hu : u.EndedWith .shortWrite) (hb : s.busy = true) (hl : s.inLoop = false) (he : s.port.dstEnd ≤ e) :
    ∃ t, StoppedAt s t ∧ t.fsm = s.fsm ∧ u = t.suspend .shortWrite ∧ s.port.dstPtr ≤ s.port.dstEnd ∧
      copyLoop n (s.withOutput e) = copyRun (t.withOutput e) := by
  induction n generalizing s with
  | zero => exact absurd hu (notEnding_busy (t := { s with fsm := .llSym }) hb u h)
  | succ n ih =>
    rw [copyLoop] at h
    split at h
    next hd =>
      refine ⟨s, .refl (by simp [hl]), rfl, (Host.Outcome.next.inj h).symm, hd.le, ?_⟩
      rw [copyRun, show (s.withOutput e).loc.rem.toNat = n + 1 from hn]
    next hd =>
      split at h
      next hsp =>
        have hrem : s.copied.loc.rem.toNat = n := by
          rw [State.copied_loc, BitVec.toNat_sub]
          have := s.loc.rem.isLt
          simp
          omega
        obtain ⟨t, ht, hf, hut, hle, hcopy⟩ := ih hrem h hb hl he
        simp only [State.copied_port] at hle
        have hd' : (s.withOutput e).port.dstPtr ≠ (s.withOutput e).port.dstEnd := Nat.ne_of_lt (Nat.lt_of_lt_of_le hle he)
        have hsp' : (s.withOutput e).inSpace (s.withOutput e).port.dstPtr = true := hsp
        refine ⟨t, StoppedAt.trans (t := s.copied) ⟨rfl, rfl, rfl, rfl, rfl, by simp [hl]⟩ ht, hf, hut, by omega, ?_⟩
        rw [copyLoop, if_neg hd', if_pos hsp']
        exact hcopy
      next => cases h

theorem resumesOutput_copyRun {s : State} (hb : s.busy = true) (hf : s.fsm = .copy) (hl : s.inLoop = false) {e : Nat}
    (he : s.port.dstEnd ≤ e) : ResumesOutput e s (copyRun s) (copyRun (s.withOutput e)) := by
  intro u hu hend
  obtain ⟨t, ht, htf, hut, -, hcopy⟩ := copyLoop_resumes rfl hu hend hb hl he
  have hf' : (t.withOutput e).fsm = .copy := htf.trans hf
  refine ⟨t, ht, hut, ?_⟩
  simp only [fetchElement, hf']
  exact hcopy.symm

theorem resumesOutput_finishDist (x : Nat) {s : State} (hb : s.busy = true) (hl : s.inLoop = false) {e : Nat}
    (he : s.port.dstEnd ≤ e) : ResumesOutput e s (finishDist x s) (finishDist x (s.withOutput e)) :=
  ite_both .rfl (fun _ => (notEnding_finish (by simp)).resumesOutput) fun _ =>
    (resumesOutput_copyRun (s := { s with
        loc := { s.loc with dist := assembleDist s.loc.dbase x, rem := s.loc.length.setWidth 16 }, fsm := .copy })
      hb rfl hl he).after ⟨rfl, rfl, rfl, rfl, rfl, by simp [hl]⟩

theorem resumesOutput_fetchStored {s : State} (hb : s.busy = true) (hf : s.fsm = .storedCopy) (e : Nat) :
    ResumesOutput e s (fetchElement s).run (fetchElement (s.withOutput e)).run := by
  intro u hu hend
  refine ⟨s, .refl fun _ => .inr hf, ?_, rfl⟩
  have hfetch : fetchElement s = fetchStored s := by simp only [fetchElement, hf]
  rw [hfetch, fetchStored] at hu
  split at hu
  · exact absurd hend (notEnding_busy (t := { s with fsm := .blockEnd, inLoop := false }) hb u hu)
  split at hu
  · exact (Host.Outcome.next.inj hu).symm
  next hd =>
    split at hu
    next he => exact absurd hend ((ReadStop.exhausted s (.refl s) he).notEnding u hu)
    split at hu
    · have hd' : ¬ s.port.dstPtr = s.port.dstEnd := hd
      simp only [Fetched.run, exec, execStoredByte, if_neg hd'] at hu
      exact absurd hend (notEnding_emit _
        (s := { s with inLoop := true, port := { s.port with srcPtr := s.port.srcPtr + 1 } }) hb _
        local_countByte u hu)
    · cases hu

/-! ### Every pass, with more room -/

/-- Behind a read, which does not end for want of room. -/
theorem run_resumesOutput {α : Type} {r r' : Res α} {s : State} {k k' : α → State → Result} {e : Nat}
    (hr : (∀ a t, r = .val a t → BitFrame s t) ∧ ∀ o, r = .stop o → ReadStop s o) (hr' : r' = r.map (·.withOutput e))
    (hk : ∀ a t, BitFrame s t → ResumesOutput e s (k a t) (k' a (t.withOutput e))) :
    ResumesOutput e s (r.run k) (r'.run k') := by
  subst hr'
  cases r with
  | val a t => exact hk a t (hr.1 a t rfl)
  | stop o => exact (hr.2 o rfl).notEnding.resumesOutput

/-- Past its field, a pass with more room goes on from where the output was full. -/
theorem fieldRead_resumesOutput {s : State} {n : Nat} {k : Acc → State → Result} (h : fieldRead s = some (n, k))
    (hb : s.busy = true) (hl : s.inLoop = true → s.fsm = .dynCll ∨ s.fsm = .storedCopy) {e : Nat} (he : s.port.dstEnd ≤ e)
    (x : Acc) (t : State) (ht : BitFrame s t) : ResumesOutput e s (k x t) (k x (t.withOutput e)) := by
  have hb' : t.busy = true := (congrArg State.busy ht.same).trans hb
  unfold fieldRead at h
  split at h
  next => cases h; exact ((inner_exec (inside_decodeHeader _)).notEnding hb' (.inr rfl)).resumesOutput
  next => cases h; exact ((inner_exec (i := decodeStoredLen x) trivial).notEnding hb' (.inr rfl)).resumesOutput
  next => cases h; exact ((inner_exec (i := decodeDynHdr _) trivial).notEnding hb' (.inr rfl)).resumesOutput
  next =>
    split at h <;> cases h
    exact ((inner_exec (i := .cll _) trivial).notEnding (s := { t with inLoop := true }) hb' (.inr rfl)).resumesOutput
  next =>
    split at h <;> cases h
    exact ((inner_applyRepeat _).notEnding hb' (.inr rfl)).resumesOutput
  next => cases h; exact ((inner_finishLength _).notEnding hb' (.inr rfl)).resumesOutput
  next hf =>
    cases h
    have hl' : s.inLoop = false := by simpa [hf] using hl
    refine (resumesOutput_finishDist x.toNat hb' ((congrArg State.inLoop ht.same).trans hl') ?_).after (ht.stoppedAt hl)
    rw [ht.still.port]
    exact he
  next => cases h

/-- A length symbol reads its field and puts nothing out; a literal waits in LIT. -/
theorem llRest_resumesOutput (y : Symbol) {s : State} (hb : s.busy = true) (hl : s.inLoop = false) (e : Nat) :
    ResumesOutput e s (llRest y s) (llRest y (s.withOutput e)) := by
  unfold llRest
  cases entryKind y.entry with
  | lit =>
    exact (resumesOutput_litOut (s := { s with loc := { s.loc with lit := _ }, fsm := .litOut }) hb rfl hl e).after
      ⟨rfl, rfl, rfl, rfl, rfl, by simp [hl]⟩
  | eob => exact (inner_endOfBlock.notEnding hb (.inr rfl)).resumesOutput
  | base =>
    refine (run_resumesOutput (s := s.latchLen _ _) (take_frame (by omega) _) (take_withOutput (by omega) _ e)
      fun x t ht => ?_).after
      ⟨rfl, rfl, rfl, rfl, rfl, by simp [hl]⟩
    exact ((inner_finishLength x.toNat).notEnding (by rw [ht.same]; exact hb) (.inr rfl)).resumesOutput
  | _ => exact (notEnding_finish (t := s.raise _) (by simp)).resumesOutput

theorem distRest_resumesOutput (y : Symbol) {s : State} (hb : s.busy = true) (hl : s.inLoop = false) {e : Nat}
    (he : s.port.dstEnd ≤ e) : ResumesOutput e s (distRest y s) (distRest y (s.withOutput e)) := by
  unfold distRest
  cases entryKind y.entry with
  | base =>
    refine (run_resumesOutput (s := s.latchDist _ _) (take_frame (by omega) _) (take_withOutput (by omega) _ e)
      fun x t ht => ?_).after
      ⟨rfl, rfl, rfl, rfl, rfl, by simp [hl]⟩
    refine (resumesOutput_finishDist x.toNat ?_ ?_ ?_).after (ht.stoppedAt (by simp [hl])) <;> rw [ht.same]
    · exact hb
    · exact hl
    · exact he
  | _ => exact (notEnding_finish (t := s.raise _) (by simp)).resumesOutput

theorem clRest_notEnding (y : Symbol) {s : State} (hb : s.busy = true) : NotEnding .shortWrite (clRest y s) := by
  unfold clRest
  dsimp only
  split
  · exact notEnding_finish (t := s.raise _) (by simp)
  split
  · exact (inner_codeLength _).notEnding hb (.inr rfl)
  split
  · exact notEnding_finish (t := s.raise _) (by simp)
  have hn : repeatExtra (entryPayload y.entry).toNat ≤ 32 := (repeatExtra_le _).trans (by decide)
  cases hr : take (repeatExtra (entryPayload y.entry).toNat)
      (s.latchRepeat (BitVec.ofNat 5 (entryPayload y.entry).toNat)) with
  | val x t =>
    have hb' : t.busy = true := (congrArg State.busy ((take_frame hn _).1 x t hr).same).trans hb
    exact (Inner.ite (c := fun _ => (entryPayload y.entry).toNat < 19) (fun _ _ _ => .rfl) (inner_applyRepeat x.toNat)
      (.raise (by decide))).notEnding hb' (.inr rfl)
  | stop o => exact ((take_frame hn _).2 o hr).notEnding

theorem symbolRead_resumesOutput {s : State} {tab : Table} {k : Symbol → State → Result} (h : symbolRead s = some (tab, k))
    (hb : s.busy = true) (hl : s.inLoop = true → s.fsm = .dynCll ∨ s.fsm = .storedCopy) {e : Nat} (he : s.port.dstEnd ≤ e)
    (y : Symbol) (t : State) (ht : BitFrame s t) : ResumesOutput e s (k y t) (k y (t.withOutput e)) := by
  have hb' : t.busy = true := (congrArg State.busy ht.same).trans hb
  have hend : t.port.dstEnd ≤ e := by
    rw [ht.still.port]
    exact he
  unfold symbolRead at h
  split at h
  next =>
    split at h <;> cases h
    exact (clRest_notEnding y hb').resumesOutput
  next hf =>
    cases h
    have hl' : t.inLoop = false := by rw [ht.same]; simpa [hf] using hl
    exact (llRest_resumesOutput y hb' hl' e).after (ht.stoppedAt hl)
  next hf =>
    cases h
    have hl' : t.inLoop = false := by rw [ht.same]; simpa [hf] using hl
    exact (distRest_resumesOutput y hb' hl' hend).after (ht.stoppedAt hl)
  next => cases h

/-- A pass that found the output full stopped at a state whose pass, with more room, is the pass with all of it from the start. -/
theorem element_resumesOutput {s : State} (hb : s.busy = true) (hl : s.inLoop = true → s.fsm = .dynCll ∨ s.fsm = .storedCopy)
    {e : Nat} (he : s.port.dstEnd ≤ e) : ResumesOutput e s (fetchElement s).run (fetchElement (s.withOutput e)).run := by
  cases hp : fieldRead s with
  | some p =>
    obtain ⟨n, k⟩ := p
    obtain ⟨hn, hrun⟩ := fieldRead_spec hp
    rw [hrun, (fieldRead_spec (s := s.withOutput e) hp).2]
    exact run_resumesOutput (take_frame hn s) (take_withOutput hn s e) (fieldRead_resumesOutput hp hb hl he)
  | none =>
    cases hq : symbolRead s with
    | some p =>
      obtain ⟨tab, k⟩ := p
      rw [symbolRead_spec hq, symbolRead_spec (s := s.withOutput e) hq]
      exact run_resumesOutput (decodeSym_frame tab s) (decodeSym_withOutput tab s e) (symbolRead_resumesOutput hq hb hl he)
    | none =>
      by_cases hstored : s.fsm = .storedCopy
      · exact resumesOutput_fetchStored hb hstored e
      by_cases hlit : s.fsm = .litOut
      · have hlit' : (s.withOutput e).fsm = .litOut := hlit
        simp only [fetchElement, hlit, hlit']
        exact resumesOutput_litOut hb hlit (by simpa [hlit] using hl) e
      by_cases hcopy : s.fsm = .copy
      · have hcopy' : (s.withOutput e).fsm = .copy := hcopy
        simp only [fetchElement, hcopy, hcopy']
        exact resumesOutput_copyRun hb hcopy (by simpa [hcopy] using hl) he
      exact (move_notEnding hb hp hq hstored (.inr ⟨rfl, hlit, hcopy⟩)).resumesOutput

/-- Settles O57: the reissued state is where the pass stopped, and the pass from there is the pass with everything there from the
start. -/
theorem resumeAfterSuspension : Obligations.ResumeAfterSuspension := by
  intro s u e hs hc hfast hstep
  have hslow : ∀ t : State, t.par = s.par → t.fastReady = false := fun t ht => by simp [State.fastReady, ht, hfast]
  have hl : s.inLoop = true → s.fsm = .dynCll ∨ s.fsm = .storedCopy := fun h => (hc.2.2 h).2
  rw [step_eq_run hs (hslow s rfl)] at hstep
  refine ⟨fun hend he => ?_, fun hend he => ?_⟩
  · obtain ⟨t, ht, rfl, hrun⟩ := element_resumes hs.1 hl hstep hend he
    have hre : ((t.suspend .shortRead).withInput e).reissued s = (t.withInput e).leaveLoop :=
      congrArg (State.withInput · e) (reissued_suspend hs ht .shortRead)
    have ht' : StoppedAt s (t.withInput e) := ⟨ht.busy, ht.decoding, ht.interleaved, ht.par, ht.status, ht.loop⟩
    rw [hre, step_leaveLoop hs hfast ht', hrun, step_eq_run (s := s.withInput e) hs (hslow _ rfl)]
  · obtain ⟨t, ht, rfl, hrun⟩ := element_resumesOutput hs.1 hl he u hstep hend
    have hre : ((t.suspend .shortWrite).withOutput e).reissued s = (t.withOutput e).leaveLoop :=
      congrArg (State.withOutput · e) (reissued_suspend hs ht .shortWrite)
    have ht' : StoppedAt s (t.withOutput e) := ⟨ht.busy, ht.decoding, ht.interleaved, ht.par, ht.status, ht.loop⟩
    rw [hre, step_leaveLoop hs hfast ht', hrun, step_eq_run (s := s.withOutput e) hs (hslow _ rfl)]

end Sys2Proof.Machine
end
section
/-! PROOF. The states a resumed DECODE enters in the middle of a symbol (R226, R262, R264, R266, R302): the extra fields, and the bytes
of the copy one by one. -/

namespace Sys2Proof.Machine

/-! ### The history behind new bytes (R300, R301) -/

@[simp] theorem append_hidx (w : Window) (b : Byte) : (w.append b).hidx = w.hidx + 1 := rfl

@[simp] theorem append_hfill (w : Window) (b : Byte) : (w.append b).hfill = fillCount w.hfill := rfl

theorem histAt_append_one (w : Window) (b : Byte) : (w.append b).histAt 1 = b := by
  simp [Window.append, Window.histAt]

/-- A byte of the history is one further back once another is appended. -/
theorem histAt_append_succ (w : Window) (b : Byte) {d : Nat} (h1 : 1 ≤ d) (h2 : d < 32768) :
    (w.append b).histAt (d + 1) = w.histAt d := by
  have h : w.hidx + 1 - BitVec.ofNat 15 (d + 1) = w.hidx - BitVec.ofNat 15 d := by
    rw [BitVec.ofNat_add]
    exact add_sub_add_right_eq_sub _ _ _
  have hne : w.hidx.toNat ≠ (w.hidx - BitVec.ofNat 15 d).toNat := by
    rw [BitVec.toNat_sub, BitVec.toNat_ofNat]
    have := w.hidx.isLt
    omega
  simp only [Window.append, Window.histAt, h]
  exact Vector.getElem_set_ne _ _ hne

/-! ### The copy, byte by byte (R302) -/

theorem copiedTimes_succ (n : Nat) (s : State) : copiedTimes (n + 1) s = (copiedTimes n s).copied := by
  induction n generalizing s with
  | zero => rfl
  | succ n ih => exact ih s.copied

/-- The end of a copy of which `n` bytes of `m` fit. -/
def State.copyEnd (s : State) (m n : Nat) : State :=
  if n = m then { copiedTimes n s with fsm := .llSym } else (copiedTimes n s).suspend .shortWrite

/-- `COPY` copies the bytes that fit, and ends or suspends behind them. -/
theorem copyLoop_eq (m : Nat) (s : State) (hd : s.port.dstPtr ≤ s.port.dstEnd) (hsp : s.port.dstEnd ≤ 2 ^ s.par.addrW) :
    copyLoop m s = .next (s.copyEnd m (min m (s.port.dstEnd - s.port.dstPtr))) := by
  induction m generalizing s with
  | zero => simp [copyLoop, State.copyEnd, copiedTimes]
  | succ m ih =>
    rw [copyLoop]
    by_cases hfull : s.port.dstPtr = s.port.dstEnd
    · rw [if_pos hfull]
      simp [hfull, State.copyEnd, copiedTimes]
    · have hin : s.inSpace s.port.dstPtr = true := by
        simp only [State.inSpace, decide_eq_true_eq]
        omega
      have hmin : min (m + 1) (s.port.dstEnd - s.port.dstPtr) = min m (s.port.dstEnd - (s.port.dstPtr + 1)) + 1 := by omega
      rw [if_neg hfull, if_pos hin, ih s.copied (by simp only [State.copied_port]; omega) hsp, hmin]
      exact congrArg _ (if_congr Nat.add_right_cancel_iff.symm rfl rfl)

theorem copyEnd_mem (s : State) (m n : Nat) : (s.copyEnd m n).mem = (copiedTimes n s).mem := by
  unfold State.copyEnd
  split <;> rfl

theorem copyEnd_win (s : State) (m n : Nat) : (s.copyEnd m n).win = (copiedTimes n s).win := by
  unfold State.copyEnd
  split <;> rfl

/-- What `n` copied bytes leave alone, and how far the cursor and REM have come. -/
theorem copiedTimes_frame (n : Nat) (s : State) :
    copiedTimes n s =
      { s with
        mem := (copiedTimes n s).mem, win := (copiedTimes n s).win,
        loc := { s.loc with rem := s.loc.rem - BitVec.ofNat 16 n },
        port := { s.port with dstPtr := s.port.dstPtr + n } } := by
  induction n with
  | zero => simp [copiedTimes]
  | succ n ih =>
    have hrem : s.loc.rem - BitVec.ofNat 16 n - 1 = s.loc.rem - BitVec.ofNat 16 (n + 1) := by
      rw [BitVec.ofNat_add]
      exact sub_sub _ _ _
    rw [copiedTimes_succ, State.copied, State.emitted, ih]
    simp only [hrem, Nat.add_assoc]

/-- The `k`-th byte of the copy. -/
def copyByte (s : State) (k : Nat) : Byte := (copiedTimes k s).win.histAt s.loc.dist.toNat

theorem copiedTimes_win (n : Nat) (s : State) :
    (copiedTimes (n + 1) s).win = (copiedTimes n s).win.append (copyByte s n) := by
  have hdist : (copiedTimes n s).loc.dist = s.loc.dist := by rw [copiedTimes_frame]
  rw [copiedTimes_succ, State.copied_win, hdist]
  rfl

theorem copiedTimes_mem (n : Nat) (s : State) :
    (copiedTimes (n + 1) s).mem = (copiedTimes n s).mem.write (s.port.dstPtr + n) (copyByte s n) := by
  have hdist : (copiedTimes n s).loc.dist = s.loc.dist := by rw [copiedTimes_frame]
  have hdst : (copiedTimes n s).port.dstPtr = s.port.dstPtr + n := by rw [copiedTimes_frame]
  rw [copiedTimes_succ, State.copied_mem, hdist, hdst]
  rfl

theorem copiedTimes_hidx (n : Nat) (s : State) : (copiedTimes n s).win.hidx = s.win.hidx + BitVec.ofNat 15 n := by
  induction n with
  | zero => simp [copiedTimes]
  | succ n ih =>
    rw [copiedTimes_win, append_hidx, ih, BitVec.ofNat_add]
    exact add_assoc _ _ _

theorem copiedTimes_hfill (n : Nat) {s : State} (h : s.win.hfill.toNat ≤ 32768) :
    (copiedTimes n s).win.hfill.toNat = min (s.win.hfill.toNat + n) 32768 := by
  induction n with
  | zero =>
    rw [copiedTimes]
    omega
  | succ n ih =>
    rw [copiedTimes_win, append_hfill, toNat_fillCount, ih]
    omega

/-- The newest bytes of the history during the copy: those copied, then those from before it. -/
theorem copiedTimes_histAt (n : Nat) (s : State) {d : Nat} (h1 : 1 ≤ d) (h2 : d ≤ 32768) :
    (copiedTimes n s).win.histAt d = if n < d then s.win.histAt (d - n) else copyByte s (n - d) := by
  induction n generalizing d with
  | zero => rw [if_pos (by omega)]; rfl
  | succ n ih =>
    rw [copiedTimes_win]
    obtain rfl | ⟨d, rfl, hd⟩ : d = 1 ∨ ∃ d', d = d' + 1 ∧ 1 ≤ d' := by
      by_cases h : d = 1
      · exact .inl h
      · exact .inr ⟨d - 1, by omega, by omega⟩
    · rw [histAt_append_one, if_neg (by omega), Nat.add_sub_cancel]
    · rw [histAt_append_succ _ _ hd (by omega), ih hd (by omega), Nat.add_sub_add_right]
      simp only [Nat.add_lt_add_iff_right, Nat.add_sub_add_right]

/-- Each byte of the copy is the byte DIST before it. -/
theorem copyByte_eq {s : State} (k : Nat) (h : s.loc.dist.toNat ≤ 32768) :
    copyByte s k =
      if k < s.loc.dist.toNat then s.win.histAt (s.loc.dist.toNat - k) else copyByte s (k - s.loc.dist.toNat) := by
  obtain h0 | h1 := Nat.eq_zero_or_pos s.loc.dist.toNat
  · rw [if_neg (by omega), h0, Nat.sub_zero]
  · exact copiedTimes_histAt k s h1 h

theorem copiedTimes_memOk (n : Nat) {s : State} (h : s.MemOk) : (copiedTimes n s).MemOk := by
  induction n with
  | zero => exact h
  | succ n ih =>
    rw [State.MemOk, copiedTimes_mem]
    exact Mem.wf_write ih _ _

/-- The output holds the bytes of the copy, and no other address has changed. -/
theorem copiedTimes_read (n : Nat) {s : State} (h : s.MemOk) (a : Nat) :
    (copiedTimes n s).mem.read a =
      if s.port.dstPtr ≤ a ∧ a < s.port.dstPtr + n then copyByte s (a - s.port.dstPtr) else s.mem.read a := by
  induction n with
  | zero => rw [if_neg (by omega)]; rfl
  | succ n ih =>
    rw [copiedTimes_mem, Mem.read_write (copiedTimes_memOk n h), ih]
    by_cases ha : a = s.port.dstPtr + n
    · rw [if_pos ha, if_pos (by omega), ha, Nat.add_sub_cancel_left]
    · rw [if_neg ha]
      exact if_congr (by omega) rfl rfl

/-! ### The resumed passes -/

/-- Outside LL_SYM every pass is a slow one (R270). -/
theorem step_of_notLLSym {s : State} (hs : s.Decoding) (hf : s.fsm ≠ .llSym) : step s = (fetchElement s).run :=
  step_eq_run hs (by simp [State.fastReady, hf])

/-- A resumed pass that begins with a field. -/
theorem step_field {s : State} (hs : s.Decoding) (hf : s.fsm ≠ .llSym) {n : Nat} {k : Acc → State → Result}
    (hk : fieldRead s = some (n, k)) : step s = (take n s).run k :=
  (step_of_notLLSym hs hf).trans (fieldRead_spec hk).2

theorem take_loc {n : Nat} (hn : n ≤ 32) {s t : State} {x : Acc} (h : take n s = .val x t) :
    BitFrame s t ∧ t.loc = s.loc ∧ t.fsm = s.fsm := by
  have hf := (take_frame hn s).1 x t h
  exact ⟨hf, by rw [hf.same], by rw [hf.same]⟩

/-- `LENGTH` is base and extra field, in its 9 bits (R106). -/
theorem assembleLength_eq (b : BitVec 9) (x : Nat) : assembleLength b x = BitVec.ofNat 9 (b.toNat + x) := by
  rw [assembleLength, BitVec.ofNat_add, BitVec.ofNat_toNat, BitVec.setWidth_eq]

/-- `DIST` is base and extra field, in its 16 bits (R106). -/
theorem assembleDist_eq (b : BitVec 15) (x : Nat) : assembleDist b x = BitVec.ofNat 16 (b.toNat + x) := by
  rw [assembleDist, BitVec.ofNat_add, BitVec.ofNat_toNat]

/-- A distance with its field of 15 bits at most fits `DIST`. -/
theorem toNat_assembleDist {b : BitVec 15} {x : Nat} (hx : x < 2 ^ 15) : (assembleDist b x).toNat = b.toNat + x := by
  rw [assembleDist_eq, BitVec.toNat_ofNat, Nat.mod_eq_of_lt (by have := b.isLt; omega)]

/-- The pass of COPY (R302). -/
theorem step_copy {s : State} (hs : s.Decoding) (hf : s.fsm = .copy) : step s = copyRun s := by
  rw [step_of_notLLSym hs (by simp [hf])]
  simp only [fetchElement, hf]
  rfl

theorem finishDist_far {x d : Nat} {t : State} (hd : (assembleDist t.loc.dbase x).toNat = d)
    (h : d = 0 ∨ t.win.hfill.toNat < d) :
    finishDist x t = .next ({ t with loc := { t.loc with dist := BitVec.ofNat 16 d } }.raise .badDistance) := by
  have hc : assembleDist t.loc.dbase x = 0 ∨ t.win.hfill.toNat < (assembleDist t.loc.dbase x).toNat := by
    rw [hd]
    exact h.imp_left fun h0 => BitVec.eq_of_toNat_eq (hd.trans h0)
  rw [finishDist, if_pos hc, ← hd, BitVec.ofNat_toNat, BitVec.setWidth_eq]

theorem finishDist_near {x d : Nat} {t : State} (hd : (assembleDist t.loc.dbase x).toNat = d) (h0 : d ≠ 0)
    (h : d ≤ t.win.hfill.toNat) :
    finishDist x t = copyRun
      { t with
        loc := { t.loc with dist := BitVec.ofNat 16 d, rem := BitVec.ofNat 16 t.loc.length.toNat }
        fsm := .copy } := by
  have hc : ¬ (assembleDist t.loc.dbase x = 0 ∨ t.win.hfill.toNat < (assembleDist t.loc.dbase x).toNat) := by
    rw [hd]
    rintro (hz | hlt)
    · exact h0 (hd.symm.trans (congrArg BitVec.toNat hz))
    · omega
  rw [finishDist, if_neg hc, ← hd, BitVec.ofNat_toNat, BitVec.ofNat_toNat, BitVec.setWidth_eq]

/-- A resumed repeat symbol reads its extra field (R226). -/
theorem step_repeat {s : State} {n : Nat} (hs : s.Decoding) (hf : s.fsm = .dynLensExtra)
    (hrep : s.loc.repsym = BitVec.ofNat 5 n)
    (hn : n = 16 ∨ n = 17 ∨ n = 18) : step s = (take (repeatExtra n) s).run fun x t => applyRepeat x.toNat t := by
  have hsym : s.loc.repsym.toNat = n := by
    rw [hrep, BitVec.toNat_ofNat]
    omega
  have hne : repeatExtra n ≠ 0 := by rcases hn with rfl | rfl | rfl <;> decide
  refine step_field hs (by simp [hf]) ?_
  simp only [fieldRead, hf, hsym, hne, if_false]

/-- It goes on as the symbol with that field does. -/
theorem step_repeat_exec {s t : State} {n : Nat} {x : Acc} {i : Instr} (hs : s.Decoding) (hf : s.fsm = .dynLensExtra)
    (hrep : s.loc.repsym = BitVec.ofNat 5 n) (hn : n = 16 ∨ n = 17 ∨ n = 18) (h0 : n = 16 → s.loc.i ≠ 0)
    (ht : take (repeatExtra n) s = .val x t) (hi : i.shape = .cl n (x.toNat % 2 ^ repeatExtra n)) : step s = exec i t := by
  have h32 : repeatExtra n ≤ 32 := (repeatExtra_le n).trans (by decide)
  obtain ⟨-, hloc, hfsm⟩ := take_loc h32 ht
  have hlatch : t.latchRepeat (BitVec.ofNat 5 n) = t := by rw [State.latchRepeat, ← hrep, ← hf, ← hloc, ← hfsm]
  rw [Nat.mod_eq_of_lt (take_lt h32 ht)] at hi
  rw [step_repeat hs hf hrep hn, ht, exec_of_shape hi, shapeMeaning, if_neg (by omega),
    if_neg fun h => h0 h.1 (hloc ▸ h.2), hlatch]
  rfl

/-- The pass of LIT_OUT with room for its byte (R262). -/
theorem litOut_emits {s : State} (hroom : s.port.dstPtr ≠ s.port.dstEnd) (hsp : s.inSpace s.port.dstPtr = true) :
    litOut s = .next { s.emitted s.loc.lit with fsm := .llSym } := by
  rw [litOut, if_neg hroom, emit, if_pos hsp]
  rfl

/-- Settles O10: each resumed state's pass reads the field its latch asks for, or puts out what waits in the state. -/
theorem resumedPasses : Obligations.ResumedPasses := by
  intro s hs
  refine ⟨fun hf => ⟨fun hfull => ?_, fun hroom hsp => ?_⟩, fun hf => ⟨fun x t ht => ?_, fun o ho => ?_⟩,
    fun hf => ⟨fun x t d ht hd => ?_, fun o ho => ?_⟩, fun hf => ⟨fun x t h16 h0 ht => ?_, fun x t h17 ht => ?_,
      fun x t h18 ht => ?_, fun o ho => ?_⟩, fun hf hm hdist hfill hd hsp => ?_⟩
  · rw [step_of_notLLSym hs (by simp [hf])]
    simp only [fetchElement, hf]
    exact if_pos hfull
  · rw [step_of_notLLSym hs (by simp [hf])]
    simp only [fetchElement, hf]
    exact litOut_emits hroom hsp
  · have hk : fieldRead s = some (s.loc.lnx.toNat, fun x t => finishLength x.toNat t) := by simp only [fieldRead, hf]
    obtain ⟨-, hloc, -⟩ := take_loc (by omega) ht
    rw [step_field hs (by simp [hf]) hk, ht, Res.run, finishLength, assembleLength_eq, hloc]
  · have hk : fieldRead s = some (s.loc.lnx.toNat, fun x t => finishLength x.toNat t) := by simp only [fieldRead, hf]
    rw [step_field hs (by simp [hf]) hk, ho, Res.run]
  · have hk : fieldRead s = some (s.loc.dnx.toNat, fun x t => finishDist x.toNat t) := by simp only [fieldRead, hf]
    obtain ⟨hframe, hloc, -⟩ := take_loc (by omega) ht
    have hx : x.toNat < 2 ^ 15 := (take_lt (by omega) ht).trans_le (Nat.pow_le_pow_right (by decide) (by omega))
    have hd' : (assembleDist t.loc.dbase x.toNat).toNat = d := by rw [toNat_assembleDist hx, hloc, hd]
    have hwin : t.win = s.win := by rw [hframe.same]
    rw [step_field hs (by simp [hf]) hk, ht, Res.run, ← hwin]
    refine ⟨finishDist_far hd', fun h0 hle => ?_⟩
    rw [finishDist_near hd' h0 hle, hloc]
    exact (step_copy (by rw [hframe.same]; exact hs) rfl).symm
  · have hk : fieldRead s = some (s.loc.dnx.toNat, fun x t => finishDist x.toNat t) := by simp only [fieldRead, hf]
    rw [step_field hs (by simp [hf]) hk, ho, Res.run]
  · exact step_repeat_exec hs hf h16 (.inl rfl) (fun _ => h0) ht (congrArg _ (BitVec.toNat_setWidth _ _))
  · exact step_repeat_exec hs hf h17 (.inr (.inl rfl)) (fun h => absurd h (by decide))
      ht (congrArg _ (BitVec.toNat_setWidth _ _))
  · exact step_repeat_exec hs hf h18 (.inr (.inr rfl)) (fun h => absurd h (by decide))
      ht (congrArg _ (BitVec.toNat_setWidth _ _))
  · rcases ho with ⟨hr, ho⟩ | ⟨hr, ho⟩ | ⟨hr, ho⟩
    · rw [step_repeat (n := 16) hs hf hr (by omega)]
      exact congrArg (Res.run · _) ho
    · rw [step_repeat (n := 17) hs hf hr (by omega)]
      exact congrArg (Res.run · _) ho
    · rw [step_repeat (n := 18) hs hf hr (by omega)]
      exact congrArg (Res.run · _) ho
  · intro n c
    have hc : c (s.copyEnd s.loc.rem.toNat n) = copiedTimes n s := by
      simp only [c, copyEnd_mem, copyEnd_win]
      exact (copiedTimes_frame n s).symm
    refine ⟨s.copyEnd s.loc.rem.toNat n, (step_copy hs hf).trans (copyLoop_eq _ s hd hsp), by rw [hc]; rfl, ?_, ?_,
      fun k hk => ?_,
      fun a ha => ?_⟩
    · rw [copyEnd_win, copiedTimes_hidx]
    · rw [copyEnd_win, copiedTimes_hfill n hfill]
    · rw [copyEnd_mem, copiedTimes_read n hm, copiedTimes_read n hm, if_pos (by omega), Nat.add_sub_cancel_left,
        copyByte_eq k (hdist.trans hfill)]
      refine ite_both .rfl (fun _ => rfl) fun hge => ?_
      rw [if_pos (by omega)]
      exact congrArg (copyByte s) (by omega)
    · rw [copyEnd_mem, copiedTimes_read n hm, if_neg (by omega)]

end Sys2Proof.Machine
end
section
/-! PROOF. What a move may do to the engine itself (R21, R22, R35, R135, R373, R375): it goes on under the same command, or ends it
with a suspension or an error. Said once, move by move, so that an invariant of every step is read off from the few ways a move can
land. -/

namespace Sys2Proof.Machine

/-- Every next state of `o` has `P`. -/
def Gives (P : State → Prop) (o : Result) : Prop := ∀ t, o = .next t → P t

/-- `t` is where `s` has gone on to under the same command: the data invariants stand, and neither the input cursor nor the position
in the stream has moved back. -/
structure Goes (s t : State) : Prop where
  acc : s.AccOk → t.AccOk
  mem : s.MemOk → t.MemOk
  win : s.WindowOk → t.WindowOk
  src : s.port.srcPtr ≤ t.port.srcPtr
  pos : 8 * s.port.srcPtr + t.nbits.toNat ≤ 8 * t.port.srcPtr + s.nbits.toNat
  busy : t.busy = s.busy
  decoding : t.decoding = s.decoding
  interleaved : t.interleaved = s.interleaved
  disabled : t.disabled = s.disabled
  loop : t.inLoop = true → s.inLoop = true

/-- It has, and the flags of the block are as they were. -/
structure Quiet (s t : State) : Prop extends Goes s t where
  bfinal : t.bfinal = s.bfinal
  btype : t.btype = s.btype
  eob : t.eob = s.eob

/-- A move from `s` lands where the engine has gone on to, or ends the command there, suspended or with an error. -/
inductive Lands (R : State → State → Prop) (s : State) : State → Prop where
  | goes {t : State} (h : R s t) : Lands R s t
  | suspends {t : State} (h : R s t) {st : Status} (hst : st ≠ .ok) : Lands R s (t.suspend st)
  | raises {t : State} (h : R s t) {e : Status} (he : 0x10 ≤ e.code.toNat) : Lands R s (t.raise e)

/-- `o` lands quietly. -/
abbrev LandsTo (s : State) (o : Result) : Prop := Gives (Lands Quiet s) o

theorem Goes.refl (s : State) : Goes s s :=
  ⟨id, id, id, Nat.le_refl _, Nat.le_refl _, rfl, rfl, rfl, rfl, id⟩

theorem Goes.trans {s t u : State} (h : Goes s t) (k : Goes t u) : Goes s u := by
  have hpos := h.pos
  have kpos := k.pos
  exact ⟨fun hs => k.acc (h.acc hs), fun hs => k.mem (h.mem hs), fun hs => k.win (h.win hs), h.src.trans k.src, by omega,
    k.busy.trans h.busy, k.decoding.trans h.decoding, k.interleaved.trans h.interleaved, k.disabled.trans h.disabled,
    fun hu => h.loop (k.loop hu)⟩

theorem Quiet.refl (s : State) : Quiet s s := ⟨.refl s, rfl, rfl, rfl⟩

theorem Quiet.trans {s t u : State} (h : Quiet s t) (k : Quiet t u) : Quiet s u :=
  ⟨h.toGoes.trans k.toGoes, k.bfinal.trans h.bfinal, k.btype.trans h.btype, k.eob.trans h.eob⟩

theorem Lands.after {s t u : State} (k : Lands Quiet t u) (h : Quiet s t) : Lands Quiet s u := by
  cases k with
  | goes k => exact .goes (h.trans k)
  | suspends k hst => exact .suspends (h.trans k) hst
  | raises k he => exact .raises (h.trans k) he

/-- A quiet landing, seen from where the engine has gone on from. -/
theorem Lands.afterGoes {s t u : State} (k : Lands Quiet t u) (h : Goes s t) : Lands Goes s u := by
  cases k with
  | goes k => exact .goes (h.trans k.toGoes)
  | suspends k hst => exact .suspends (h.trans k.toGoes) hst
  | raises k he => exact .raises (h.trans k.toGoes) he

theorem Gives.mono {P Q : State → Prop} {o : Result} (h : Gives P o) (hPQ : ∀ t, P t → Q t) : Gives Q o :=
  fun t ht => hPQ t (h t ht)

theorem LandsTo.after {s t : State} {o : Result} (k : LandsTo t o) (h : Quiet s t) : LandsTo s o := k.mono fun _ hu => hu.after h

theorem gives_next {P : State → Prop} {t : State} (h : P t) : Gives P (.next t) := fun _ ht => Host.Outcome.next.inj ht ▸ h

theorem gives_fault {P : State → Prop} (f : Fault) : Gives P (.fault f) := fun _ h => nomatch h

theorem gives_refused {P : State → Prop} (r : Refusal) : Gives P (.refused r) := fun _ h => nomatch h

theorem gives_ite {P : State → Prop} {c : Prop} [Decidable c] {o o' : Result} (h : c → Gives P o) (h' : ¬ c → Gives P o') :
    Gives P (if c then o else o') := by
  split
  · exact h ‹_›
  · exact h' ‹_›

theorem landsTo_goes {s t : State} (h : Quiet s t) : LandsTo s (.next t) := gives_next (.goes h)

theorem landsTo_raise {s t : State} (h : Quiet s t) {e : Status} (he : 0x10 ≤ e.code.toNat) : LandsTo s (.next (t.raise e)) :=
  gives_next (.raises h he)

theorem landsTo_full (s : State) : LandsTo s (.next (s.suspend .shortWrite)) := gives_next (.suspends (.refl s) (by decide))

/-! ### Updates -/

/-- An update of the resume point, the locals, the lengths and the tables. -/
theorem Quiet.update {s t : State}
    (h : t = { s with fsm := t.fsm, loc := t.loc, lens := t.lens, tab0 := t.tab0, tab1 := t.tab1 }) : Quiet s t := by
  rw [h]
  exact ⟨⟨id, id, id, Nat.le_refl _, Nat.le_refl _, rfl, rfl, rfl, rfl, id⟩, rfl, rfl, rfl⟩

theorem quiet_emitted (s : State) (b : Byte) : Quiet s (s.emitted b) :=
  ⟨⟨id, fun h => Mem.wf_write h _ _, fun h => windowOk_append h b, Nat.le_refl _, Nat.le_refl _, rfl, rfl, rfl, rfl, id⟩,
    rfl, rfl, rfl⟩

theorem quiet_refilled {s : State} (hn : s.nbits.toNat ≤ 24) : Quiet s s.refilled := by
  refine ⟨⟨fun h => accOk_refilled h hn, id, id, Nat.le_succ _, ?_, rfl, rfl, rfl, rfl, id⟩, rfl, rfl, rfl⟩
  rw [nbits_refilled hn, State.refilled_port]
  dsimp only
  omega

theorem quiet_consume {s : State} {n : Nat} (hn : n ≤ s.nbits.toNat) : Quiet s (s.consume n) := by
  refine ⟨⟨fun h => accOk_consume h hn, id, id, Nat.le_refl _, ?_, rfl, rfl, rfl, rfl, id⟩, rfl, rfl, rfl⟩
  rw [nbits_consume hn, State.consume_port]
  omega

theorem quiet_fillLens (s : State) (i : Nat) (v : BitVec 4) (n : Nat) : Quiet s (s.fillLens i v n) := by
  induction n generalizing s i with
  | zero => exact .refl s
  | succ n ih => exact (Quiet.update (t := s.setLen i v) rfl).trans (ih _ _)

theorem quiet_clearTail (s : State) (ks : List Nat) : Quiet s (s.clearTail ks) := by
  induction ks generalizing s with
  | nil => exact .refl s
  | cons k ks ih => exact (Quiet.update (t := s.setLen k 0) rfl).trans (ih _)

/-! ### Reads -/

/-- A read from `s` finds its value where the engine has gone on to, or lands. -/
def Res.LandsFrom {α : Type} (s : State) : Res α → Prop
  | .val _ t => Quiet s t
  | .stop o => LandsTo s o

theorem landsTo_inputExhausted (s : State) : LandsTo s (.next s.inputExhausted) := by
  rcases inputExhausted_cases s with h | h <;> rw [h]
  · exact gives_next (.suspends (.refl s) (by decide))
  · exact landsTo_raise (.refl s) (by decide)

theorem refill_lands (s : State) : (refill s).LandsFrom s := by
  rcases refill_cases s with ⟨-, h⟩ | ⟨-, -, h⟩ | ⟨hn, -, -, h⟩ | ⟨-, -, -, h⟩ <;> rw [h]
  · exact landsTo_raise (.refl s) (by decide)
  · exact landsTo_inputExhausted s
  · exact quiet_refilled hn
  · exact gives_fault _

theorem ReadsTo.lands {α : Type} {found : State → Option (Res α)} (hfound : ∀ s r, found s = some r → r.LandsFrom s)
    {s : State} {r : Res α} (h : ReadsTo found s r) : r.LandsFrom s := by
  induction h with
  | done h => exact hfound _ _ h
  | @stop s o _ hr =>
    have := refill_lands s
    rw [hr] at this
    exact this
  | @more s t r _ hr _ ih =>
    have ht := refill_lands s
    rw [hr] at ht
    cases r with
    | val a u => exact Quiet.trans ht ih
    | stop o => exact LandsTo.after ih ht

theorem take_lands {n : Nat} (hn : n ≤ 32) (s : State) : (take n s).LandsFrom s := by
  refine ReadsTo.lands (fun t r h => ?_) (take_readsTo hn s)
  unfold takeFound at h
  split at h
  · cases h
  · cases h
    exact quiet_consume (Nat.not_lt.mp ‹_›)

theorem decodeSym_lands (tab : Table) (s : State) : (decodeSym tab s).LandsFrom s := by
  refine ReadsTo.lands (fun t r h => ?_) (decodeSym_readsTo tab s)
  unfold symFound at h
  split at h
  · cases h
    exact landsTo_raise (.refl t) (by decide)
  split at h
  · cases h
    exact quiet_consume ‹_›
  · cases h

/-- A read, and what the pass does with its value. -/
theorem landsTo_run {α : Type} {s : State} {r : Res α} {k : α → State → Result} (hr : r.LandsFrom s)
    (hk : ∀ a t, LandsTo t (k a t)) : LandsTo s (r.run k) := by
  cases r with
  | val a t => exact (hk a t).after hr
  | stop o => exact hr

/-! ### Moves -/

theorem accOk_empty {s : State} (hb : s.bits = 0) (hn : s.nbits = 0) : s.AccOk := by
  rw [State.AccOk, hb, hn]
  decide

theorem landsTo_alignToStored (s : State) : LandsTo s (alignToStored s) := by
  unfold alignToStored
  rcases align_cases s fun t => .next { t with fsm := .storedLen } with h | h <;> rw [h]
  · exact landsTo_goes ⟨⟨fun _ => accOk_empty rfl rfl, id, id, Nat.le_refl _, Nat.add_le_add_left (Nat.zero_le _) _,
      rfl, rfl, rfl, rfl, id⟩, rfl, rfl, rfl⟩
  · exact landsTo_raise (.refl s) (by decide)

theorem buildError_code (e : BuildError) : 0x10 ≤ e.status.code.toNat := by cases e <;> decide

theorem landsTo_buildTab0 {A : Alphabet} {lens : List Nat} {s : State} {k : State → Result} (hk : ∀ t, LandsTo t (k t)) :
    LandsTo s (buildTab0 A lens s k) := by
  unfold buildTab0
  split
  · exact (hk _).after (.update rfl)
  · exact landsTo_raise (.refl s) (buildError_code _)

theorem landsTo_buildTab1 {A : Alphabet} {lens : List Nat} {s : State} {k : State → Result} (hk : ∀ t, LandsTo t (k t)) :
    LandsTo s (buildTab1 A lens s k) := by
  unfold buildTab1
  split
  · exact (hk _).after (.update rfl)
  · exact landsTo_raise (.refl s) (buildError_code _)

theorem landsTo_fixedInit (s : State) : LandsTo s (fixedInit s) := by
  unfold fixedInit
  generalize fixedLens = l
  exact (landsTo_buildTab0 fun _ => landsTo_buildTab1 fun _ => landsTo_goes (.update rfl)).after (.update rfl)

theorem landsTo_execStoredLen (len nlen : BitVec 16) (s : State) : LandsTo s (execStoredLen len nlen s) :=
  gives_ite (fun _ => landsTo_raise (.refl s) (by decide)) fun _ => landsTo_goes (.update rfl)

theorem landsTo_emit (b : Byte) {s : State} {f : State → State} (hf : ∀ t, Quiet t (f t)) :
    LandsTo s (andThen (emit b s) fun t => .next (f t)) := by
  rcases emit_cases b s with ⟨-, h⟩ | ⟨-, h⟩ <;> rw [h]
  · exact landsTo_goes ((quiet_emitted s b).trans (hf _))
  · exact gives_fault _

theorem landsTo_execStoredByte (b : Byte) (s : State) : LandsTo s (execStoredByte b s) :=
  gives_ite (fun _ => landsTo_full s) fun _ => landsTo_emit b fun _ => .update rfl

theorem landsTo_execDynHdr (hlit hdist : BitVec 5) (hclen : BitVec 4) (s : State) :
    LandsTo s (execDynHdr hlit hdist hclen s) :=
  gives_ite (fun _ => landsTo_raise (.update rfl) (by decide)) fun _ => landsTo_goes (.update rfl)

theorem landsTo_execCll (l : BitVec 3) (s : State) : LandsTo s (execCll l s) := landsTo_goes (.update rfl)

theorem landsTo_cllDone (s : State) : LandsTo s (cllDone s) := by
  unfold cllDone
  refine (landsTo_buildTab0 fun t => landsTo_goes ?_).after (quiet_clearTail s _)
  exact ⟨⟨id, id, id, Nat.le_refl _, Nat.le_refl _, rfl, rfl, rfl, rfl, fun h => by cases h⟩, rfl, rfl, rfl⟩

theorem landsTo_codeLength (n : BitVec 4) (s : State) : LandsTo s (codeLength n s) := landsTo_goes (.update rfl)

theorem landsTo_applyRepeat (x : Nat) (s : State) : LandsTo s (applyRepeat x s) :=
  gives_ite (fun _ => landsTo_raise (.refl s) (by decide)) fun _ =>
    landsTo_goes ((quiet_fillLens s s.loc.i.toNat _ _).trans (.update rfl))

theorem landsTo_dynBuild (s : State) : LandsTo s (dynBuild s) :=
  gives_ite (fun _ => landsTo_raise (.refl s) (by decide)) fun _ =>
    landsTo_buildTab0 fun _ => landsTo_buildTab1 fun _ => landsTo_goes (.update rfl)

theorem landsTo_litOut (s : State) : LandsTo s (litOut s) :=
  gives_ite (fun _ => landsTo_full s) fun _ => landsTo_emit _ fun _ => .update rfl

theorem landsTo_literal (b : Byte) (s : State) : LandsTo s (literal b s) := (landsTo_litOut _).after (.update rfl)

theorem landsTo_badCode (s : State) : LandsTo s (badCode s) := landsTo_raise (.refl s) (by decide)

theorem landsTo_finishLength (x : Nat) (s : State) : LandsTo s (finishLength x s) := landsTo_goes (.update rfl)

theorem landsTo_copyRun (s : State) : LandsTo s (copyRun s) := fun t =>
  copyLoop_induct (P := Quiet s) (Q := Lands Quiet s) (fun _ h => .goes (h.trans (.update rfl)))
    (fun _ h _ => .suspends h (by decide))
    (fun u h _ => (h.trans (quiet_emitted u (u.win.histAt u.loc.dist.toNat))).trans (.update rfl)) _ s t (.refl s)

theorem landsTo_finishDist (x : Nat) (s : State) : LandsTo s (finishDist x s) :=
  gives_ite (fun _ => landsTo_raise (.update rfl) (by decide)) fun _ => (landsTo_copyRun _).after (.update rfl)

/-! ### Instructions -/

/-- The state whose flags an element leaves: a header's are latched, the end-of-block symbol sets EOB (R30). -/
def flagged : Shape → State → State
  | .header n f, s => s.latchHeader (BitVec.ofNat 2 (min n 3)) f
  | .ll n _, s => if n = 256 then s.setEob else s
  | _, s => s

/-- Every element of the stream lands, the flags of the block aside. -/
theorem landsTo_shapeMeaning {h : Shape} (hc : ∀ c, h ≠ .command c) (s : State) :
    LandsTo (flagged h s) (shapeMeaning h s) := by
  cases h with
  | header n f =>
    rcases n with _ | _ | _ | n
    · exact landsTo_alignToStored _
    · exact landsTo_goes (.update rfl)
    · exact landsTo_goes (.update rfl)
    · rw [flagged, show min (n + 1 + 1 + 1) 3 = 3 by omega]
      exact landsTo_raise (.refl _) (by decide)
  | pad n p => exact landsTo_alignToStored s
  | storedLen len nlen => exact landsTo_execStoredLen len nlen s
  | storedByte b => exact landsTo_execStoredByte b s
  | dynHdr hlit hdist hclen => exact landsTo_execDynHdr hlit hdist hclen s
  | cll l => exact landsTo_execCll l s
  | cl n x =>
    exact gives_ite (fun _ => landsTo_codeLength _ s) fun _ =>
      gives_ite (fun _ => landsTo_raise (.refl s) (by decide)) fun _ => (landsTo_applyRepeat x _).after (.update rfl)
  | ll n x =>
    unfold flagged shapeMeaning
    by_cases h256 : n = 256
    · simp only [h256, if_true]
      exact landsTo_goes (.update rfl)
    simp only [h256, if_false]
    exact gives_ite (fun _ => landsTo_literal _ s) fun _ =>
      gives_ite (fun _ => (landsTo_finishLength x _).after (.update rfl)) fun _ => landsTo_badCode s
  | dist n x => exact gives_ite (fun _ => (landsTo_finishDist x _).after (.update rfl)) fun _ => landsTo_badCode s
  | command c => exact absurd rfl (hc c)

theorem goes_flagged (h : Shape) (s : State) : Goes s (flagged h s) := by
  have hsame : flagged h s =
      { s with bfinal := (flagged h s).bfinal, btype := (flagged h s).btype, eob := (flagged h s).eob } := by
    unfold flagged
    split
    · rfl
    · split <;> rfl
    · rfl
  rw [hsame]
  exact ⟨id, id, id, Nat.le_refl _, Nat.le_refl _, rfl, rfl, rfl, rfl, id⟩

/-- Every element of the stream lands (R373, R375). -/
theorem exec_lands {i : Instr} (hc : ∀ c, i.shape ≠ .command c) (s : State) : Gives (Lands Goes s) (exec i s) := by
  rw [exec_eq_meaning]
  exact (landsTo_shapeMeaning hc s).mono fun _ h => h.afterGoes (goes_flagged _ s)

end Sys2Proof.Machine
end
section
/-! PROOF. What every pass of DECODE's loop keeps (R21, R22, R35, R135, R341), fast or slow, and so every step. -/

namespace Sys2Proof.Machine

/-! ### A pass behind its read -/

theorem LandsTo.goes {s : State} {o : Result} (h : LandsTo s o) : Gives (Lands Goes s) o :=
  h.mono fun _ ht => ht.afterGoes (.refl s)

/-- A read, and a move that goes on from where the read has found its value. -/
theorem gives_run {α : Type} {s : State} {r : Res α} {k : α → State → Result} (hr : r.LandsFrom s)
    (hk : ∀ a t, Quiet s t → Gives (Lands Goes s) (k a t)) : Gives (Lands Goes s) (r.run k) := by
  cases r with
  | val a t => exact hk a t hr
  | stop o => exact LandsTo.goes hr

/-- The same, where the move behind the read lands from there. -/
theorem gives_run_lands {α : Type} {s : State} {r : Res α} {k : α → State → Result} (hr : r.LandsFrom s)
    (hk : ∀ a t, Gives (Lands Goes t) (k a t)) : Gives (Lands Goes s) (r.run k) :=
  gives_run hr fun a t ht => (hk a t).mono fun u hu => by
    cases hu with
    | goes h => exact .goes (ht.toGoes.trans h)
    | suspends h hst => exact .suspends (ht.toGoes.trans h) hst
    | raises h he => exact .raises (ht.toGoes.trans h) he

theorem gives_llRest (y : Symbol) (s : State) : Gives (Lands Goes s) (llRest y s) := by
  unfold llRest
  split
  · exact (landsTo_literal _ s).goes
  · exact gives_next (.goes ⟨id, id, id, Nat.le_refl _, Nat.le_refl _, rfl, rfl, rfl, rfl, id⟩)
  · exact ((landsTo_run (take_lands (by omega) _) fun x t => landsTo_finishLength x.toNat t).after (.update rfl)).goes
  · exact (landsTo_badCode s).goes
  · exact (landsTo_raise (.refl s) (by decide)).goes

theorem landsTo_distRest (y : Symbol) (s : State) : LandsTo s (distRest y s) := by
  unfold distRest
  split
  · exact (landsTo_run (take_lands (by omega) _) fun x t => landsTo_finishDist x.toNat t).after (.update rfl)
  · exact landsTo_badCode s
  · exact landsTo_raise (.refl s) (by decide)

theorem landsTo_clRest (y : Symbol) (s : State) : LandsTo s (clRest y s) := by
  unfold clRest
  have hn : repeatExtra (entryPayload y.entry).toNat ≤ 32 := (repeatExtra_le _).trans (by decide)
  refine gives_ite (fun _ => landsTo_raise (.refl s) (by decide)) fun _ => gives_ite (fun _ => landsTo_codeLength _ s) fun _ =>
    gives_ite (fun _ => landsTo_raise (.refl s) (by decide)) fun _ => ?_
  exact (landsTo_run (take_lands hn _) fun x t => gives_ite (fun _ => landsTo_applyRepeat x.toNat t) fun _ =>
    landsTo_raise (.refl t) (by decide)).after (.update rfl)

/-! ### The two states with a loop of their own (log 6) -/

/-- No pass of a loop has run but inside the loop's state. -/
abbrev State.LoopOk (s : State) : Prop := s.inLoop = true → s.fsm = .dynCll ∨ s.fsm = .storedCopy

/-- What a pass keeps of the engine, whichever way it lands. -/
structure Keeps (s t : State) : Prop where
  acc : s.AccOk → t.AccOk
  mem : s.MemOk → t.MemOk
  win : s.WindowOk → t.WindowOk
  src : s.port.srcPtr ≤ t.port.srcPtr
  pos : 8 * s.port.srcPtr + t.nbits.toNat ≤ 8 * t.port.srcPtr + s.nbits.toNat
  control : (t.busy = s.busy ∧ t.decoding = s.decoding ∧ t.interleaved = s.interleaved) ∨
    (t.decoding = false ∧ t.interleaved = false ∧ t.inLoop = false)
  loop : s.LoopOk → t.LoopOk

theorem Goes.keeps {s t : State} (h : Goes s t) (hl : s.LoopOk → t.LoopOk) : Keeps s t :=
  ⟨h.acc, h.mem, h.win, h.src, h.pos, .inl ⟨h.busy, h.decoding, h.interleaved⟩, hl⟩

theorem Goes.keeps_finish {s t : State} (h : Goes s t) (st : Status) : Keeps s (t.finish st) :=
  ⟨h.acc, h.mem, h.win, h.src, h.pos, .inr ⟨rfl, rfl, rfl⟩, fun _ hf => nomatch hf⟩

theorem Goes.keeps_raise {s t : State} (h : Goes s t) (e : Status) : Keeps s (t.raise e) :=
  ⟨h.acc, h.mem, h.win, h.src, h.pos, .inr ⟨rfl, rfl, rfl⟩, fun _ hf => nomatch hf⟩

theorem Lands.keeps {s t : State} (h : Lands Goes s t) (hl : s.LoopOk → t.LoopOk) : Keeps s t := by
  cases h with
  | goes h => exact h.keeps hl
  | suspends h hst => exact h.keeps_finish _
  | raises h he => exact h.keeps_raise _

/-- Outside the two states that loop, a landing is not in a loop. -/
theorem Lands.keeps_outside {s t : State} (h : Lands Goes s t) (hs : s.fsm ≠ .dynCll ∧ s.fsm ≠ .storedCopy) : Keeps s t :=
  h.keeps fun hl ht => by
    cases h with
    | goes h => exact absurd (hl (h.loop ht)) (by tauto)
    | suspends _ _ => cases ht
    | raises _ _ => cases ht

/-- A landing that has left the loop. -/
theorem Lands.keeps_left {s t : State} (h : Lands Goes s t) (ht : t.inLoop = false) : Keeps s t :=
  h.keeps fun _ hl => nomatch ht.symm.trans hl

theorem ReadStop.left {s t : State} (h : ReadStop s (.next t)) : t.inLoop = false :=
  (congrArg State.inLoop (Host.Outcome.next.inj h.leaveLoop)).symm

theorem gives_cllDone (s : State) : Gives (fun t => t.inLoop = false) (cllDone s) := by
  unfold cllDone buildTab0
  dsimp only
  split
  · exact gives_next rfl
  · exact gives_next rfl

theorem keeps_fetchCll {s : State} (hf : s.fsm = .dynCll) : Gives (Keeps s) (fetchCll s).run := by
  unfold fetchCll
  split
  · rw [run_fetch]
    cases hr : take 3 s with
    | val x t =>
      have ht := take_lands (n := 3) (by omega) s
      rw [hr] at ht
      obtain ⟨-, -, hfsm⟩ := take_loc (by omega) hr
      exact gives_next ⟨ht.acc, ht.mem, ht.win, ht.src, ht.pos, .inl ⟨ht.busy, ht.decoding, ht.interleaved⟩,
        fun _ _ => .inl (hfsm.trans hf)⟩
    | stop o =>
      rintro t rfl
      have ht := take_lands (n := 3) (by omega) s
      rw [hr] at ht
      exact ((LandsTo.goes ht) t rfl).keeps_left ((take_frame (by omega) s).2 _ hr).left
  · exact fun t ht => ((landsTo_cllDone s).goes t ht).keeps_left (gives_cllDone s t ht)

theorem execStoredByte_fsm (b : Byte) (s : State) : Gives (fun t => t.fsm = s.fsm) (execStoredByte b s) :=
  gives_ite (fun _ => gives_next rfl) fun _ => by
    rcases emit_cases b s with ⟨-, h⟩ | ⟨-, h⟩ <;> rw [h]
    · exact gives_next rfl
    · exact gives_fault _

theorem keeps_fetchStored {s : State} (hf : s.fsm = .storedCopy) : Gives (Keeps s) (fetchStored s).run := by
  unfold fetchStored
  split
  · exact gives_next ⟨id, id, id, Nat.le_refl _, Nat.le_refl _, .inl ⟨rfl, rfl, rfl⟩, fun _ h => nomatch h⟩
  split
  · exact gives_next ((Goes.refl s).keeps_finish _)
  next hroom =>
  split
  · rcases inputExhausted_cases s with h | h <;> rw [h]
    · exact gives_next ((Goes.refl s).keeps_finish _)
    · exact gives_next ((Goes.refl s).keeps_raise _)
  split
  · intro t ht
    have hfsm : t.fsm = .storedCopy := (execStoredByte_fsm _ _ t ht).trans hf
    have k := Lands.keeps ((landsTo_execStoredByte _ _).goes t ht) fun _ _ => .inr hfsm
    have hsrc := k.src
    have hpos := k.pos
    dsimp only at hsrc hpos
    exact ⟨k.acc, k.mem, k.win, by omega, by omega, k.control, fun _ => k.loop fun _ => .inr hf⟩
  · exact gives_fault _

/-! ### The slow pass -/

/-- A pass outside those two states that lands. -/
theorem keeps_of_lands {s : State} {f : Fsm} {o : Result} (hf : s.fsm = f) (hne : f ≠ .dynCll ∧ f ≠ .storedCopy)
    (ho : Gives (Lands Goes s) o) : Gives (Keeps s) o :=
  ho.mono fun _ ht => ht.keeps_outside (hf ▸ hne)

theorem keeps_blockEnd {s : State} (hf : s.fsm = .blockEnd) : Gives (Keeps s) (blockEnd s) :=
  gives_ite (fun _ => gives_next ((Quiet.update (t := { s with fsm := .done }) rfl).toGoes.keeps_finish .ok)) fun _ =>
    keeps_of_lands hf (by decide) (landsTo_goes (.update rfl)).goes

/-- Every pass of the loop keeps the engine in order (R341). -/
theorem keeps_fetchElement (s : State) : Gives (Keeps s) (fetchElement s).run := by
  unfold fetchElement
  cases hf : s.fsm <;> dsimp only
  case hdr =>
    rw [run_fetch]
    refine keeps_of_lands hf (by decide) (gives_run_lands (take_lands (by omega) s) fun v t => exec_lands (fun c h => ?_) t)
    have hi := inside_decodeHeader (v.setWidth 3)
    rw [h] at hi
    exact hi
  case storedLen =>
    rw [run_fetch]
    exact keeps_of_lands hf (by decide)
      (landsTo_run (take_lands (by omega) s) fun _ t => landsTo_execStoredLen _ _ t).goes
  case storedCopy => exact keeps_fetchStored hf
  case fixedInit => exact keeps_of_lands hf (by decide) (landsTo_fixedInit s).goes
  case dynHdr =>
    rw [run_fetch]
    exact keeps_of_lands hf (by decide)
      (landsTo_run (take_lands (by omega) s) fun _ t => landsTo_execDynHdr _ _ _ t).goes
  case dynCll => exact keeps_fetchCll hf
  case dynLensSym =>
    by_cases hi : s.loc.i.toNat = s.lensTotal
    · rw [fetchCL, if_pos hi]
      exact keeps_of_lands hf (by decide) (landsTo_goes (.update rfl)).goes
    · rw [run_fetchCL hi]
      exact keeps_of_lands hf (by decide) (landsTo_run (decodeSym_lands _ s) landsTo_clRest).goes
  case dynLensExtra =>
    unfold resumeRepeat
    split
    · exact keeps_of_lands hf (by decide) (landsTo_raise (.refl s) (by decide)).goes
    · have hn : repeatExtra s.loc.repsym.toNat ≤ 32 := (repeatExtra_le _).trans (by decide)
      rw [run_fetch]
      exact keeps_of_lands hf (by decide) (landsTo_run (take_lands hn s) fun x t => landsTo_applyRepeat x.toNat t).goes
  case dynBuild => exact keeps_of_lands hf (by decide) (landsTo_dynBuild s).goes
  case llSym =>
    rw [run_fetchLL]
    exact keeps_of_lands hf (by decide) (gives_run_lands (decodeSym_lands _ s) gives_llRest)
  case litOut => exact keeps_of_lands hf (by decide) (landsTo_litOut s).goes
  case lenExtra =>
    rw [run_fetch]
    exact keeps_of_lands hf (by decide)
      (landsTo_run (take_lands (by omega) s) fun x t => landsTo_finishLength x.toNat t).goes
  case distSym =>
    rw [run_fetchDist]
    exact keeps_of_lands hf (by decide) (landsTo_run (decodeSym_lands _ s) landsTo_distRest).goes
  case distExtra =>
    rw [run_fetch]
    exact keeps_of_lands hf (by decide)
      (landsTo_run (take_lands (by omega) s) fun x t => landsTo_finishDist x.toNat t).goes
  case copy => exact keeps_of_lands hf (by decide) (landsTo_copyRun s).goes
  case blockEnd => exact keeps_blockEnd hf
  case done => exact gives_next ((Goes.refl s).keeps_finish .ok)

/-! ### The fast pass (R270) -/

/-- A symbol's instruction does not look at the accumulator or the input cursor. -/
theorem exec_ll_giveBack {i : Instr} {n x : Nat} (hi : i.shape = .ll n x) (s : State) :
    exec i s.giveBack = mapNext State.giveBack (exec i s) := by
  rw [exec_of_shape hi, exec_of_shape hi]
  unfold shapeMeaning
  rw [apply_ite (mapNext _), apply_ite (mapNext _), apply_ite (mapNext _)]
  refine if_congr .rfl ?_ rfl
  exact ite_both (R := fun o o' : Result => o = mapNext State.giveBack o') .rfl (fun _ => rfl) fun _ =>
    ite_both (R := fun o o' : Result => andThen o (fun t => .next { t with fsm := .llSym }) =
      mapNext State.giveBack (andThen o' fun t => .next { t with fsm := .llSym })) .rfl (fun _ => rfl) fun _ => rfl

/-- An instruction fetched is a literal/length symbol. -/
def Fetched.IsLL : Fetched → Prop
  | .instr i _ => ∃ n x, i.shape = .ll n x
  | .engine _ => True

theorem isLL_ofInstr {o : Option Instr} {n x : Nat} (h : ∀ j, o = some j → j.shape = .ll n x) (s : State) (r : Result) :
    (Fetched.ofInstr o s r).IsLL := by
  cases o with
  | some j => exact ⟨n, x, h j rfl⟩
  | none => trivial

theorem isLL_fetch {α : Type} {r : Res α} {k : α → State → Fetched} (hk : ∀ a t, (k a t).IsLL) : (r.fetch k).IsLL := by
  cases r with
  | val a t => exact hk a t
  | stop o => trivial

theorem shape_of_map {o : Option Instr} {h : Shape} (ho : o.map Instr.shape = some h) (j : Instr) (hj : o = some j) :
    j.shape = h := by
  subst hj
  exact Option.some.inj ho

theorem isLL_lengthEntry (e : Entry) (x : Nat) (s : State) (r : Result) : (Fetched.ofInstr (lenEntryInstr e x) s r).IsLL := by
  cases hj : baseIndex lenBase lenExtra e with
  | none =>
    rw [lenEntryInstr, hj]
    trivial
  | some j =>
    rw [lenEntryInstr, hj]
    exact isLL_ofInstr (shape_of_map (shape_llInstr_length (show j < 29 from (baseIndex_spec hj).1))) s r

theorem isLL_reserved (code L : Nat) (s : State) (r : Result) : (Fetched.ofInstr (llReserved code L) s r).IsLL := by
  unfold llReserved
  split
  · exact ⟨286, 0, rfl⟩
  split
  · exact ⟨287, 0, rfl⟩
  · trivial

/-- What LL_SYM fetches is a literal/length symbol (R98). -/
theorem isLL_fetchLL (s : State) : (fetchLL s).IsLL := by
  refine isLL_fetch fun y t => ?_
  cases entryKind y.entry with
  | lit => exact isLL_ofInstr (shape_of_map (shape_llInstr_literal (Nat.mod_lt _ (by decide)))) t _
  | eob => exact ⟨256, 0, rfl⟩
  | base => exact isLL_fetch fun x u => isLL_lengthEntry y.entry x.toNat u _
  | invalid => exact isLL_reserved y.code y.len t _
  | _ => trivial

theorem run_giveBack {F : Fetched} (h : F.IsLL) : F.giveBack.run = mapNext State.giveBack F.run := by
  cases F with
  | instr i t =>
    obtain ⟨n, x, hi⟩ := h
    exact exec_ll_giveBack hi t
  | engine o => cases o <;> rfl

/-- What reading ahead leaves alone (R138). -/
theorem readAheadLoop_frame (k : Nat) (s : State) : Quiet s (readAheadLoop k s) ∧ (readAheadLoop k s) =
    { s with
      bits := (readAheadLoop k s).bits, nbits := (readAheadLoop k s).nbits
      port := { s.port with srcPtr := (readAheadLoop k s).port.srcPtr } } := by
  induction k generalizing s with
  | zero => exact ⟨.refl s, rfl⟩
  | succ k ih =>
    rw [readAheadLoop]
    split
    next h =>
      obtain ⟨hq, hf⟩ := ih s.refilled
      exact ⟨(quiet_refilled h.1).trans hq, hf⟩
    next => exact ⟨.refl s, rfl⟩

theorem readAhead_frame (s : State) : Quiet s s.readAhead ∧ s.readAhead =
    { s with bits := s.readAhead.bits, nbits := s.readAhead.nbits, port := { s.port with srcPtr := s.readAhead.port.srcPtr } } :=
  readAheadLoop_frame 4 s

/-- A pass of a started DECODE: the slow pass, or in LL_SYM the same with bytes read ahead and given back (R138, R270). -/
theorem pass_decoding {s : State} (hd : s.decoding = true) :
    pass s = (fetchElement s).run ∧ s.fastReady = false ∨
    pass s = mapNext State.giveBack (fetchElement s.readAhead).run ∧ s.fastReady = true ∧ s.fsm = .llSym := by
  rw [pass_eq_run, fetch, if_pos hd]
  cases hr : s.fastReady with
  | false => exact .inl ⟨rfl, rfl⟩
  | true =>
    have hf : s.fsm = .llSym := by
      simp only [State.fastReady, Bool.and_eq_true, decide_eq_true_eq] at hr
      obtain ⟨⟨⟨-, hf⟩, -⟩, -⟩ := hr
      exact hf
    have hfa : s.readAhead.fsm = .llSym := by
      rw [(readAhead_frame s).2]
      exact hf
    refine .inr ⟨?_, rfl, hf⟩
    have he : fetchElement s.readAhead = fetchLL s.readAhead := by simp only [fetchElement, hfa]
    rw [if_pos rfl, he]
    exact run_giveBack (isLL_fetchLL _)

end Sys2Proof.Machine
end
section
/-! PROOF. The invariants of every step (R21, R22, R35, R135), and the operands it leaves alone (R41, R340). -/

namespace Sys2Proof.Machine

/-! ### Giving back -/

theorem giveBack_toNat_nbits (s : State) : s.giveBack.nbits.toNat = s.nbits.toNat % 8 := by
  have := s.nbits.isLt
  rw [State.giveBack_nbits, BitVec.toNat_ofNat]
  omega

theorem accOk_giveBack (s : State) : s.giveBack.AccOk := by
  refine ⟨?_, by rw [giveBack_toNat_nbits]; omega⟩
  have hn : s.nbits.toNat - 8 * (s.nbits.toNat / 8) = s.nbits.toNat % 8 := by omega
  have hpos := Nat.two_pow_pos (s.nbits.toNat % 8)
  rw [giveBack_toNat_nbits, State.giveBack_bits, hn, BitVec.toNat_and, BitVec.toNat_ofNat]
  exact (Nat.and_le_right.trans (Nat.mod_le _ _)).trans_lt (by omega)

/-! ### Commands -/

theorem goes_addBytes (n a : Nat) (s : State) : Gives (Goes s) (addBytes n a s) := by
  induction n generalizing a s with
  | zero => exact gives_next (.refl s)
  | succ n ih =>
    refine gives_ite (fun _ => (ih _ _).mono fun t ht => Goes.trans (t := s.appended _) ?_ ht) fun _ => gives_fault _
    exact ⟨id, id, fun h => windowOk_append h _, Nat.le_refl _, Nat.le_refl _, rfl, rfl, rfl, rfl, id⟩

/-- `t` is where a command that read no element has ended. -/
abbrev Ended (s t : State) : Prop := Keeps s t ∧ t.inLoop = false

theorem Goes.ended {s t : State} (h : Goes s t) (st : Status) : Ended s (t.finish st) := ⟨h.keeps_finish st, rfl⟩

theorem ended_execAddHistory (s : State) : Gives (Ended s) (execAddHistory s) := by
  refine gives_ite (fun _ => gives_next ((Goes.refl s).ended _)) fun _ => gives_ite (fun _ => ?_) fun _ => gives_refused _
  have hg := goes_addBytes s.port.hbLen s.port.hbPtr s
  cases ha : addBytes s.port.hbLen s.port.hbPtr s with
  | next t => exact gives_next ((hg t ha).ended _)
  | fault f => exact gives_fault f
  | refused r => exact gives_refused r

theorem ended_execReset (s : State) : Gives (Ended s) (execReset s) :=
  gives_next ⟨⟨fun _ => accOk_empty rfl rfl, id, fun _ => ⟨Nat.zero_le _, fun _ => rfl⟩, Nat.le_refl _,
    Nat.add_le_add_left (Nat.zero_le _) _, .inr ⟨rfl, rfl, rfl⟩, fun _ h => nomatch h⟩, rfl⟩

theorem ended_execWorkbufLen (s : State) : Gives (Ended s) (execWorkbufLen s) :=
  gives_next ⟨⟨id, id, id, Nat.le_refl _, Nat.le_refl _, .inr ⟨rfl, rfl, rfl⟩, fun _ h => nomatch h⟩, rfl⟩

/-- DECODE ends at once, or enters its loop (R341). -/
theorem ended_execDecode (s : State) : Gives (fun t => Ended s t ∨ t = s.resume) (execDecode s) :=
  gives_ite (fun _ => gives_next (.inl ((Goes.refl s).ended _))) fun _ =>
    gives_ite (fun _ => gives_next (.inl ((Goes.refl s).ended _))) fun _ =>
      gives_ite (fun _ => gives_next (.inr rfl)) fun _ => gives_refused _

/-- A command ends with the engine in order, or is a DECODE that enters its loop. -/
theorem ended_command (c : BitVec 2) (s : State) :
    Gives (fun t => Ended s t ∨ c = 1 ∧ t = s.resume) (exec (decodeCommand c) s) := by
  have hc : c = 0 ∨ c = 1 ∨ c = 2 ∨ c = 3 := by
    revert c
    decide
  rcases hc with rfl | rfl | rfl | rfl
  · exact (ended_execReset s).mono fun _ => .inl
  · exact (ended_execDecode s).mono fun _ => Or.imp_right fun ht => ⟨rfl, ht⟩
  · exact (ended_execAddHistory s).mono fun _ => .inl
  · exact (ended_execWorkbufLen s).mono fun _ => .inl

/-! ### Every step -/

/-- How a next state comes about: idle, by a pass slow or fast, by a command, and then perhaps an interleaving reported (R332). -/
theorem pass_next {s t : State} (h : pass s = .next t) :
    (s.decoding = true ∧ s.fastReady = false ∧ (fetchElement s).run = .next t) ∨
    (s.decoding = true ∧ s.fastReady = true ∧ s.fsm = .llSym ∧ ∃ u, (fetchElement s.readAhead).run = .next u ∧ t = u.giveBack) ∨
    (s.decoding = false ∧ exec (decodeCommand s.port.cmd) s = .next t) := by
  cases hd : s.decoding with
  | false =>
    have hf : fetch s = .instr (decodeCommand s.port.cmd) s := by rw [fetch, hd]; rfl
    exact .inr (.inr ⟨rfl, (pass_of_instr hf).symm.trans h⟩)
  | true =>
    rcases pass_decoding hd with ⟨hp, hr⟩ | ⟨hp, hr, hf⟩
    · exact .inl ⟨rfl, hr, hp.symm.trans h⟩
    · rw [hp] at h
      refine .inr (.inl ⟨rfl, hr, hf, ?_⟩)
      cases ho : (fetchElement s.readAhead).run with
      | next u =>
        rw [ho] at h
        exact ⟨u, rfl, (Host.Outcome.next.inj h).symm⟩
      | fault f => rw [ho] at h; cases h
      | refused r => rw [ho] at h; cases h

/-- What a pass or a command keeps is the invariant, CMD being as it was. -/
theorem Keeps.inv {s t : State} (h : Keeps s t) (hs : s.Inv) (hcmd : t.port.cmd = s.port.cmd)
    (hl : s.decoding = true ∨ t.inLoop = false) : t.Inv := by
  obtain ⟨hacc, hmem, hwin, hdec, hint, hloop⟩ := hs
  refine ⟨h.acc hacc, h.mem hmem, h.win hwin, ?_⟩
  rcases h.control with ⟨hb, hd, hi⟩ | ⟨hd, hi, hl⟩
  · rw [State.ControlOk, hb, hd, hi, hcmd]
    exact ⟨hdec, hint, fun ht => ⟨hl.resolve_right (by simp [ht]), h.loop (fun hs => (hloop hs).2) ht⟩⟩
  · simp [State.ControlOk, hd, hi, hl]

theorem inv_raise {s : State} (h : s.Inv) (e : Status) : (s.raise e).Inv := by
  obtain ⟨hacc, hmem, hwin, -⟩ := h
  exact ⟨hacc, hmem, hwin, nofun, nofun, nofun⟩

theorem inv_giveBack {s : State} (h : s.Inv) : s.giveBack.Inv := by
  obtain ⟨-, hmem, hwin, hctl⟩ := h
  exact ⟨accOk_giveBack s, hmem, hwin, hctl⟩

theorem inv_readAhead {s : State} (h : s.Inv) : s.readAhead.Inv := by
  obtain ⟨hq, hf⟩ := readAhead_frame s
  obtain ⟨hacc, hmem, hwin, hctl⟩ := h
  refine ⟨hq.acc hacc, hq.mem hmem, hq.win hwin, ?_⟩
  rw [hf]
  exact hctl

/-- A DECODE that enters its loop (R341). -/
theorem inv_resume {s : State} (h : s.Inv) (hb : s.busy = true) (hd : s.decoding = false) (hc : s.port.cmd = 1) :
    s.resume.Inv := by
  obtain ⟨hacc, hmem, hwin, -, hint, hloop⟩ := h
  exact ⟨hacc, hmem, hwin, fun _ => ⟨hb, hc⟩, hint, fun hl => nomatch hd.symm.trans (hloop hl).1⟩

theorem inv_pass {s t : State} (hs : s.Inv) (hb : s.busy = true) (h : pass s = .next t) : t.Inv := by
  rcases pass_next h with ⟨hd, -, hp⟩ | ⟨hd, -, -, u, hp, rfl⟩ | ⟨hd, hp⟩
  · refine (keeps_fetchElement s t hp).inv hs ?_ (.inl hd)
    rw [(advancesTo_pass s t h).port]
  · have hda : s.readAhead.decoding = true := by
      rw [(readAhead_frame s).2]
      exact hd
    refine inv_giveBack ((keeps_fetchElement s.readAhead u hp).inv (inv_readAhead hs) ?_ (.inl hda))
    have hcmd : u.giveBack.port.cmd = s.port.cmd := by rw [(advancesTo_pass s _ h).port]
    rw [(readAhead_frame s).2]
    exact hcmd
  · rcases ended_command _ s t hp with ⟨hk, hl⟩ | ⟨hc, rfl⟩
    · refine hk.inv hs ?_ (.inr hl)
      rw [(advancesTo_pass s t h).port]
    · exact inv_resume hs hb hd hc

/-- Settles O48: each way a step can go keeps the invariant. -/
theorem stepKeepsInvariant : Obligations.StepKeepsInvariant := by
  intro s t hs h
  rcases step_next h with rfl | ⟨hb, hp⟩ | ⟨hb, u, rfl | ⟨hp, -⟩, rfl⟩
  · exact hs
  · exact inv_pass hs hb hp
  · exact inv_raise hs _
  · exact inv_raise (inv_pass hs hb hp) _

/-! ### The operands -/

/-- The input cursor does not move back, but for bits held from before a fast pass. -/
theorem src_pass {s t : State} (h : pass s = .next t) (hfast : s.fastReady = false ∨ s.nbits.toNat ≤ 7) :
    s.port.srcPtr ≤ t.port.srcPtr := by
  rcases pass_next h with ⟨-, -, hp⟩ | ⟨-, hr, -, u, hp, rfl⟩ | ⟨-, hp⟩
  · exact (keeps_fetchElement s t hp).src
  · have hn : s.nbits.toNat ≤ 7 := hfast.resolve_left (by simp [hr])
    have h1 := (readAhead_frame s).1.pos
    have h2 := (keeps_fetchElement s.readAhead u hp).pos
    simp only [State.giveBack_port]
    omega
  · rcases ended_command _ s t hp with ⟨hk, -⟩ | ⟨-, rfl⟩
    · exact hk.src
    · exact Nat.le_refl _

/-- Settles O51: a step only advances, and gives back no more than it read ahead. -/
theorem operandsNeverWritten : Obligations.OperandsNeverWritten := by
  intro s t h
  have ha := step_advances h
  have hsrc : s.fastReady = false ∨ s.nbits.toNat ≤ 7 → s.port.srcPtr ≤ t.port.srcPtr := by
    intro hfast
    rcases step_next h with rfl | ⟨-, hp⟩ | ⟨-, u, rfl | ⟨hp, -⟩, rfl⟩
    · exact Nat.le_refl _
    · exact src_pass hp hfast
    · exact Nat.le_refl _
    · exact src_pass (t := u) hp hfast
  refine ⟨ha.par, ?_⟩
  rw [ha.port]
  exact ⟨rfl, rfl, rfl, rfl, rfl, rfl, rfl, rfl, ha.out, hsrc⟩

end Sys2Proof.Machine
end
section
/-! PROOF. The four commands (R41, R49, R305, R341 to R344): what each answers, and what makes it refuse. -/

namespace Sys2Proof.Machine

/-! ### ADD_HISTORY's loop (R305) -/

/-- The window once the `n` bytes of `m` from address `a` up are appended. -/
def Window.appendMem (m : Mem) : Nat → Nat → Window → Window
  | 0, _, w => w
  | n + 1, a, w => Window.appendMem m n (a + 1) (w.append (m.read a))

theorem appendMem_hidx (m : Mem) (n a : Nat) (w : Window) : (w.appendMem m n a).hidx = w.hidx + BitVec.ofNat 15 n := by
  induction n generalizing a w with
  | zero => simp [Window.appendMem]
  | succ n ih =>
    rw [Window.appendMem, ih, append_hidx, BitVec.ofNat_add, BitVec.add_comm (BitVec.ofNat 15 n)]
    exact add_assoc _ _ _

theorem appendMem_hfill (m : Mem) (n a : Nat) {w : Window} (h : w.hfill.toNat ≤ 32768) :
    (w.appendMem m n a).hfill.toNat = min (w.hfill.toNat + n) 32768 := by
  induction n generalizing a w with
  | zero =>
    rw [Window.appendMem]
    omega
  | succ n ih =>
    have hw : (w.append (m.read a)).hfill.toNat = min (w.hfill.toNat + 1) 32768 := by rw [append_hfill, toNat_fillCount]
    rw [Window.appendMem, ih _ (by omega), hw]
    omega

/-- The newest bytes are the last ones appended; the ones before them have moved back by as many. -/
theorem appendMem_histAt (m : Mem) (n a : Nat) (w : Window) {d : Nat} (h1 : 1 ≤ d) (h2 : d ≤ 32768) :
    (w.appendMem m n a).histAt d = if d ≤ n then m.read (a + n - d) else w.histAt (d - n) := by
  induction n generalizing a w with
  | zero => rw [if_neg (by omega)]; rfl
  | succ n ih =>
    rw [Window.appendMem, ih]
    by_cases hd : d ≤ n
    · rw [if_pos hd, if_pos (by omega), Nat.add_right_comm a 1 n]
      rfl
    rw [if_neg hd]
    by_cases hd' : d = n + 1
    · rw [hd', if_pos (Nat.le_refl _), Nat.add_sub_cancel_left, histAt_append_one, Nat.add_sub_cancel]
    · rw [if_neg (by omega), show d - n = d - (n + 1) + 1 by omega, histAt_append_succ _ _ (by omega) (by omega)]

/-- The loop appends every byte, or meets an address that does not exist. -/
theorem addBytes_cases (n a : Nat) (s : State) :
    addBytes n a s = .next { s with win := s.win.appendMem s.mem n a } ∨
    addBytes n a s = .fault .noSuchAddress ∧ 2 ^ s.par.addrW < a + n := by
  induction n generalizing a s with
  | zero => exact .inl rfl
  | succ n ih =>
    rw [addBytes]
    split
    · rcases ih (a + 1) (s.appended (s.mem.read a)) with h | ⟨h, hlt⟩ <;> rw [h]
      · exact .inl rfl
      · exact .inr ⟨rfl, by rw [State.appended_par] at hlt; omega⟩
    next hsp =>
      simp only [State.inSpace, decide_eq_true_eq] at hsp
      exact .inr ⟨rfl, by omega⟩

/-- ADD_HISTORY on an enabled engine (R305, R343). -/
theorem execAddHistory_cases {s : State} (hd : s.disabled = false) :
    (s.historyApart = false ∧ execAddHistory s = .refused .illegalOperands) ∨
    (s.historyApart = true ∧
      execAddHistory s = .next ({ s with win := s.win.appendMem s.mem s.port.hbLen s.port.hbPtr }.finish .ok)) ∨
    (s.historyApart = true ∧ execAddHistory s = .fault .noSuchAddress ∧ 2 ^ s.par.addrW < s.port.hbPtr + s.port.hbLen) := by
  rw [execAddHistory, if_neg (by simp [hd])]
  cases ha : s.historyApart with
  | false => exact .inl ⟨rfl, rfl⟩
  | true =>
    rcases addBytes_cases s.port.hbLen s.port.hbPtr s with h | ⟨h, hlt⟩ <;> rw [h]
    · exact .inr (.inl ⟨rfl, rfl⟩)
    · exact .inr (.inr ⟨rfl, rfl, hlt⟩)

/-- Settles O35: the loop appends the range byte by byte, and touches the window alone. -/
theorem addHistoryAppends : Obligations.AddHistoryAppends := by
  intro s
  refine ⟨fun hd => if_pos hd, fun hd hapart hsp hfill => ?_⟩
  have hap := (historyApart_iff s).mpr hapart
  rcases execAddHistory_cases hd with ⟨h, -⟩ | ⟨-, h⟩ | ⟨-, -, hlt⟩
  · rw [hap] at h
    cases h
  · refine ⟨_, h, rfl, appendMem_hidx _ _ _ _, appendMem_hfill _ _ _ hfill, fun d h1 h2 h3 => ?_, fun d h1 h2 => ?_⟩
    · exact (appendMem_histAt _ _ _ _ h1 h3).trans (if_pos h2)
    · exact (appendMem_histAt _ _ _ _ (by omega) h2).trans (if_neg (by omega))
  · omega

/-! ### RESET and DECODE -/

/-- Settles O2: RESET writes each of these fields its value. -/
theorem resetState : Obligations.ResetState := fun _ =>
  ⟨_, rfl, rfl, rfl, rfl, rfl, rfl, rfl, rfl, rfl, rfl, rfl, rfl, rfl, rfl, rfl⟩

/-- DECODE on an enabled engine with its stream not finished. -/
theorem execDecode_enters {s : State} (hd : s.disabled = false) (hf : s.fsm ≠ .done) :
    execDecode s = if s.legalOperands then .next s.resume else .refused .illegalOperands := by
  rw [execDecode, hd, if_neg (by decide), if_neg hf]

/-- Settles O33: the three ways of R341, the operands legal where they are looked at. -/
theorem decodeStarts : Obligations.DecodeStarts := by
  intro s
  refine ⟨fun hd => if_pos hd, fun hd hf => ?_, fun hd hf hsrc hdst hin hhist => ?_⟩
  · show execDecode s = _
    rw [execDecode, hd, hf]
    rfl
  · have hl := (legalOperands_iff s).mpr ⟨⟨hsrc, hdst⟩, hin, hhist⟩
    exact (execDecode_enters hd hf).trans (if_pos hl)

/-! ### Refusals (R41) -/

/-- `o` is no refusal. -/
def NotRefused (o : Result) : Prop := ∀ r, o ≠ .refused r

theorem Inner.notRefused {op : State → Result} (h : Inner op) (s : State) : NotRefused (op s) := by
  obtain ⟨t, ht⟩ := h s
  rw [ht.answer]
  exact nofun

theorem notRefused_emit (b : Byte) (s : State) (f : State → State) :
    NotRefused (andThen (emit b s) fun t => .next (f t)) := by
  rcases emit_cases b s with ⟨-, h⟩ | ⟨-, h⟩ <;> rw [h] <;> exact nofun

theorem notRefused_litOut (s : State) : NotRefused (litOut s) := by
  unfold litOut
  split
  · exact nofun
  · exact notRefused_emit _ s _

theorem notRefused_copyLoop (n : Nat) (s : State) : NotRefused (copyLoop n s) := by
  induction n generalizing s with
  | zero => exact nofun
  | succ n ih =>
    rw [copyLoop]
    split
    · exact nofun
    split
    · exact ih s.copied
    · exact nofun

theorem notRefused_finishDist (x : Nat) (s : State) : NotRefused (finishDist x s) := by
  unfold finishDist
  dsimp only
  split
  · exact nofun
  · exact notRefused_copyLoop _ _

/-- No element of the stream is refused. -/
theorem notRefused_element {i : Instr} (hc : ∀ c, i.shape ≠ .command c) (s : State) : NotRefused (exec i s) := by
  by_cases hi : Shape.inside i.shape
  · exact (inner_exec hi).notRefused s
  rw [exec_eq_meaning]
  cases hsh : i.shape with
  | storedByte b =>
    unfold shapeMeaning execStoredByte
    dsimp only
    split
    · exact nofun
    · exact notRefused_emit b s _
  | ll n x =>
    rw [hsh] at hi
    rw [shapeMeaning, if_pos (Nat.not_le.mp hi)]
    exact notRefused_litOut _
  | dist n x =>
    rw [hsh] at hi
    rw [shapeMeaning, if_pos (Nat.not_le.mp hi)]
    exact notRefused_finishDist x _
  | command c => exact absurd hsh (hc c)
  | _ =>
    rw [hsh] at hi
    exact (hi trivial).elim

theorem historyApart_eq_false (s : State) :
    s.historyApart = false ↔ ∃ a, s.InHistoryRange a ∧ (s.InSource a ∨ s.InOutput a) := by
  rw [← Bool.not_eq_true, historyApart_iff]
  push Not
  exact exists_congr fun a => and_congr_right fun _ => by tauto

theorem legalOperands_eq_false (s : State) :
    s.legalOperands = false ↔ s.port.srcEnd < s.port.srcPtr ∨ s.port.dstEnd < s.port.dstPtr ∨
      ∃ a, s.InSource a ∧ s.InOutput a ∨ s.InHistoryRange a ∧ (s.InSource a ∨ s.InOutput a) := by
  have hin : (¬ ∀ a, s.InSource a → ¬ s.InOutput a) ↔ ∃ a, s.InSource a ∧ s.InOutput a := by
    push Not
    rfl
  rw [← Bool.not_eq_true, legalOperands_iff, ← historyApart_iff, not_and_or, not_and_or, not_and_or, hin, Bool.not_eq_true,
    historyApart_eq_false, Nat.not_le, Nat.not_le, exists_or, or_assoc]

/-- The four commands. -/
theorem command_of_shape {i : Instr} {c : Nat} (h : i.shape = .command c) :
    i = .reset ∨ i = .decode ∨ i = .addHistory ∨ i = .workbufLen := by
  cases i
  case reset => exact .inl rfl
  case decode => exact .inr (.inl rfl)
  case addHistory => exact .inr (.inr (.inl rfl))
  case workbufLen => exact .inr (.inr (.inr rfl))
  all_goals cases h

/-- An element of the stream or one of the four commands. -/
theorem element_or_command (i : Instr) :
    (∀ c, i.shape ≠ .command c) ∨ i = .reset ∨ i = .decode ∨ i = .addHistory ∨ i = .workbufLen := by
  by_cases h : ∃ c, i.shape = .command c
  · obtain ⟨c, hc⟩ := h
    exact .inr (command_of_shape hc)
  · exact .inl (not_exists.mp h)

theorem execDecode_refused (s : State) (r : Refusal) :
    execDecode s = .refused r ↔
      s.disabled = false ∧ s.fsm ≠ .done ∧ s.legalOperands = false ∧ r = .illegalOperands := by
  unfold execDecode
  cases hd : s.disabled with
  | true => simp
  | false =>
    by_cases hf : s.fsm = .done
    · simp [hf]
    · cases hl : s.legalOperands <;> simp [hf, eq_comm]

theorem execAddHistory_refused (s : State) (r : Refusal) :
    execAddHistory s = .refused r ↔ s.disabled = false ∧ s.historyApart = false ∧ r = .illegalOperands := by
  cases hd : s.disabled with
  | true => simp [execAddHistory, hd]
  | false =>
    rcases execAddHistory_cases hd with ⟨ha, h⟩ | ⟨ha, h⟩ | ⟨ha, h, -⟩ <;> rw [h, ha] <;> simp [eq_comm]

/-- Settles O34: only the two commands refuse, each where its operands are illegal. -/
theorem illegalOperandsRefused : Obligations.IllegalOperandsRefused := by
  refine ⟨fun s => ?_, fun s => ?_, fun i s r h => ?_⟩
  · refine (execDecode_refused s _).trans ?_
    rw [legalOperands_eq_false]
    simp
  · refine (execAddHistory_refused s _).trans ?_
    rw [historyApart_eq_false]
    simp
  · rcases element_or_command i with hc | rfl | rfl | rfl | rfl
    · exact absurd h (notRefused_element hc s r)
    · cases h
    · obtain ⟨-, -, -, hr⟩ := (execDecode_refused s r).mp h
      exact ⟨.inl rfl, hr⟩
    · obtain ⟨-, -, hr⟩ := (execAddHistory_refused s r).mp h
      exact ⟨.inr rfl, hr⟩
    · cases h

end Sys2Proof.Machine
end
section
/-! PROOF. The flags an instruction may change (R30, R31): an element by the way it lands, a command by its few answers. -/

namespace Sys2Proof.Machine

/-! ### Elements -/

theorem Lands.flags {s t : State} (h : Lands Quiet s t) : t.bfinal = s.bfinal ∧ t.btype = s.btype ∧ t.eob = s.eob := by
  cases h with
  | goes h | suspends h | raises h => exact ⟨h.bfinal, h.btype, h.eob⟩

/-- DISABLED changes by an error (R373). -/
theorem Lands.disables {s t : State} (h : Lands Quiet s t) (hd : t.disabled ≠ s.disabled) :
    t.disabled = true ∧ t.busy = false ∧ 0x10 ≤ t.port.status.code.toNat := by
  cases h with
  | goes h | suspends h => exact absurd h.disabled hd
  | raises h he => exact ⟨rfl, rfl, he⟩

/-- BUSY changes by a suspension or an error (R331). -/
theorem Lands.ends {s t : State} (h : Lands Quiet s t) (hb : t.busy ≠ s.busy) :
    t.EndedWith t.port.status ∧ t.port.status ≠ .ok := by
  cases h with
  | goes h => exact absurd h.busy hb
  | suspends h hst => exact ⟨⟨rfl, rfl, rfl⟩, hst⟩
  | @raises t h e he =>
    refine ⟨⟨rfl, rfl, rfl⟩, fun hok : e = .ok => ?_⟩
    subst hok
    exact absurd he (by decide)

theorem flagged_control (h : Shape) (s : State) : (flagged h s).disabled = s.disabled ∧ (flagged h s).busy = s.busy :=
  ⟨(goes_flagged h s).disabled, (goes_flagged h s).busy⟩

theorem flagged_block {h : Shape} (hh : ∀ n f, h ≠ .header n f) (s : State) :
    (flagged h s).bfinal = s.bfinal ∧ (flagged h s).btype = s.btype := by
  unfold flagged
  split
  · exact absurd rfl (hh _ _)
  · split <;> exact ⟨rfl, rfl⟩
  · exact ⟨rfl, rfl⟩

theorem flagged_eob {h : Shape} (hh : ∀ n f, h ≠ .header n f) (he : ∀ x, h ≠ .ll 256 x) (s : State) :
    (flagged h s).eob = s.eob := by
  unfold flagged
  split
  · exact absurd rfl (hh _ _)
  next n x =>
    rw [if_neg]
    rintro rfl
    exact he x rfl
  · rfl

/-- The end-of-block symbol is symbol 256 (R98). -/
theorem eq_eob_of_shape {i : Instr} {x : Nat} (h : i.shape = .ll 256 x) : i = .eob := by
  cases i
  case eob => rfl
  all_goals cases h

/-- The elements that neither suspend nor raise leave BUSY. -/
theorem busy_of_steady {i : Instr} {s t : State} (h : exec i s = .next t)
    (hi : (∃ f, i = .blockFixed f ∨ i = .blockDynamic f) ∨ (∃ l, i = .cll l) ∨ i = .eob ∨ (∃ n x, i.shape = .cl n x ∧ n < 16) ∨
      (∃ n x, i.shape = .ll n x ∧ 257 ≤ n ∧ n < 286)) : t.busy = s.busy := by
  rcases hi with ⟨f, rfl | rfl⟩ | ⟨l, rfl⟩ | rfl | ⟨n, x, hsh, hn⟩ | ⟨n, x, hsh, h1, h2⟩
  · cases h; rfl
  · cases h; rfl
  · cases h; rfl
  · cases h; rfl
  · rw [exec_of_shape hsh, shapeMeaning, if_pos hn] at h
    cases h; rfl
  · rw [exec_of_shape hsh, shapeMeaning, if_neg (by omega), if_neg (by omega), if_pos h2] at h
    cases h; rfl

/-! ### Commands -/

/-- ADD_HISTORY ends the command, the history aside with nothing changed (R305, R343). -/
theorem execAddHistory_next {s t : State} (h : execAddHistory s = .next t) :
    ∃ st, t = { s.finish st with win := t.win } := by
  cases hd : s.disabled with
  | true =>
    rw [execAddHistory, if_pos hd] at h
    cases h
    exact ⟨_, rfl⟩
  | false =>
    rcases execAddHistory_cases hd with ⟨-, h'⟩ | ⟨-, h'⟩ | ⟨-, h', -⟩ <;> rw [h'] at h
    · cases h
    · cases h
      exact ⟨_, rfl⟩
    · cases h

/-- DECODE ends at once on a disabled engine or a finished stream, else it enters its loop (R341, R344). -/
theorem execDecode_next {s t : State} (h : execDecode s = .next t) :
    ((s.disabled = true ∨ s.fsm = .done) ∧ ∃ st, t = s.finish st) ∨ (¬ (s.disabled = true ∨ s.fsm = .done) ∧ t = s.resume) := by
  unfold execDecode at h
  split at h
  next hd => cases h; exact .inl ⟨.inl hd, _, rfl⟩
  next hd =>
  split at h
  next hf => cases h; exact .inl ⟨.inr hf, _, rfl⟩
  next hf =>
  split at h
  · cases h; exact .inr ⟨not_or.mpr ⟨hd, hf⟩, rfl⟩
  · cases h

/-- Settles O47: an element changes its own flags and ends as it lands; a command's answers are few. -/
theorem flagWriters : Obligations.FlagWriters := by
  intro i s t h
  rcases element_or_command i with hc | rfl | rfl | rfl | rfl
  · have hl : Lands Quiet (flagged i.shape s) t := landsTo_shapeMeaning hc s t ((exec_eq_meaning i s).symm.trans h)
    obtain ⟨hbf, hbt, heob⟩ := hl.flags
    obtain ⟨hd, hb⟩ := flagged_control i.shape s
    have hends : t.busy ≠ s.busy → t.EndedWith t.port.status ∧ t.port.status ≠ .ok := fun hne => hl.ends (hb ▸ hne)
    refine ⟨fun _ => ⟨fun hh => ?_, fun hh he => ?_, fun hne => hl.disables (hd ▸ hne)⟩, fun ht => ?_, ?_, ?_, fun _ => hends,
      busy_of_steady h⟩
    · obtain ⟨h1, h2⟩ := flagged_block hh s
      exact ⟨hbf.trans h1, hbt.trans h2⟩
    · exact heob.trans (flagged_eob hh (fun x hx => he (eq_eob_of_shape hx)) s)
    · by_contra hs
      obtain ⟨⟨hf, -⟩, -⟩ := hends (by rw [ht]; exact fun hx => hs hx.symm)
      rw [ht] at hf
      cases hf
    · rintro (rfl | rfl | rfl) <;> exact absurd rfl (hc _)
    · rintro rfl
      exact absurd rfl (hc _)
  · cases h
    exact ⟨fun hne => absurd rfl hne, nofun, fun _ => rfl, nofun, fun hc => absurd rfl (hc _), busy_of_steady rfl⟩
  · refine ⟨?_, ?_, nofun, fun _ => ?_, fun hc => absurd rfl (hc _), busy_of_steady h⟩ <;>
      rcases execDecode_next h with ⟨hd, st, rfl⟩ | ⟨hd, rfl⟩
    · exact fun _ => ⟨fun _ => ⟨rfl, rfl⟩, fun _ _ => rfl, fun hne => absurd rfl hne⟩
    · exact fun _ => ⟨fun _ => ⟨rfl, rfl⟩, fun _ _ => rfl, fun hne => absurd rfl hne⟩
    · exact nofun
    · exact id
    · rw [if_pos hd]; rfl
    · rw [if_neg hd]; rfl
  · have hb := busy_of_steady h
    obtain ⟨st, ht⟩ := execAddHistory_next h
    rw [ht] at hb ⊢
    exact ⟨fun _ => ⟨fun _ => ⟨rfl, rfl⟩, fun _ _ => rfl, fun hne => absurd rfl hne⟩, nofun, fun _ => rfl, nofun,
      fun hc => absurd rfl (hc _), hb⟩
  · cases h
    exact ⟨fun _ => ⟨fun _ => ⟨rfl, rfl⟩, fun _ _ => rfl, fun hne => absurd rfl hne⟩, nofun, fun _ => rfl, nofun,
      fun hc => absurd rfl (hc _), busy_of_steady rfl⟩

end Sys2Proof.Machine
end
section
/-! PROOF. The workbuf constant (R342): WORKBUF_LEN answers it, and no other instruction's answer depends on it. -/

namespace Sys2Proof.Machine

/-- `op` answers the same beside another workbuf constant. -/
abbrev Unseen (n : Nat) (op : State → Result) : Prop := ∀ s, op (s.withWorkbuf n) = mapNext (·.withWorkbuf n) (op s)

/-- Two answers that differ in the workbuf constant only. -/
abbrev SameBut (n : Nat) (o o' : Result) : Prop := o = mapNext (·.withWorkbuf n) o'

theorem sameBut_ite {n : Nat} {c : Prop} [Decidable c] {o₁ o₂ o₁' o₂' : Result} (h₁ : SameBut n o₁ o₁') (h₂ : SameBut n o₂ o₂') :
    SameBut n (if c then o₁ else o₂) (if c then o₁' else o₂') :=
  ite_both .rfl (fun _ => h₁) fun _ => h₂

theorem unseen_alignToStored (n : Nat) : Unseen n alignToStored := fun _ => sameBut_ite rfl rfl

theorem unseen_execStoredLen (n : Nat) (len nlen : BitVec 16) : Unseen n (execStoredLen len nlen) := fun _ => sameBut_ite rfl rfl

theorem sameBut_emit (n : Nat) (b : Byte) (s : State) {f : State → State}
    (hf : ∀ t, f (t.withWorkbuf n) = (f t).withWorkbuf n) :
    SameBut n (andThen (emit b (s.withWorkbuf n)) fun t => .next (f t)) (andThen (emit b s) fun t => .next (f t)) := by
  have he : SameBut n (emit b (s.withWorkbuf n)) (emit b s) := sameBut_ite rfl rfl
  rw [he]
  cases emit b s with
  | next t => exact congrArg Host.Outcome.next (hf t)
  | fault f => rfl
  | refused r => rfl

theorem unseen_execStoredByte (n : Nat) (b : Byte) : Unseen n (execStoredByte b) := fun s =>
  sameBut_ite rfl (sameBut_emit n b s fun _ => rfl)

theorem unseen_litOut (n : Nat) : Unseen n litOut := fun s => sameBut_ite rfl (sameBut_emit n s.loc.lit s fun _ => rfl)

theorem unseen_execDynHdr (n : Nat) (hlit hdist : BitVec 5) (hclen : BitVec 4) : Unseen n (execDynHdr hlit hdist hclen) :=
  fun _ => sameBut_ite rfl rfl

theorem fillLens_withWorkbuf (n : Nat) (s : State) (i : Nat) (v : BitVec 4) (k : Nat) :
    (s.withWorkbuf n).fillLens i v k = (s.fillLens i v k).withWorkbuf n := by
  induction k generalizing s i with
  | zero => rfl
  | succ k ih => exact ih (s.setLen i v) (i + 1)

theorem unseen_applyRepeat (n x : Nat) : Unseen n (applyRepeat x) := fun s =>
  sameBut_ite rfl (congrArg (fun t : State => Host.Outcome.next
    { t with loc := { t.loc with i := t.loc.i + BitVec.ofNat 9 (repeatCount s.loc.repsym.toNat x) }, fsm := .dynLensSym })
    (fillLens_withWorkbuf n s _ _ _))

theorem unseen_copyLoop (n k : Nat) : Unseen n (copyLoop k) := by
  induction k with
  | zero => exact fun _ => rfl
  | succ k ih => exact fun s => sameBut_ite rfl (sameBut_ite (ih s.copied) rfl)

theorem unseen_copyRun (n : Nat) : Unseen n copyRun := fun s => unseen_copyLoop n s.loc.rem.toNat s

theorem unseen_finishDist (n x : Nat) : Unseen n (finishDist x) := fun s =>
  sameBut_ite rfl (unseen_copyRun n { s with
    loc := { s.loc with dist := assembleDist s.loc.dbase x, rem := s.loc.length.setWidth 16 }, fsm := .copy })

theorem unseen_addBytes (n k a : Nat) : Unseen n (addBytes k a) := by
  induction k generalizing a with
  | zero => exact fun _ => rfl
  | succ k ih => exact fun s => sameBut_ite (ih (a + 1) (s.appended (s.mem.read a))) rfl

theorem unseen_execAddHistory (n : Nat) : Unseen n execAddHistory := fun s => by
  refine sameBut_ite rfl (sameBut_ite ?_ rfl)
  rw [show addBytes (s.withWorkbuf n).port.hbLen (s.withWorkbuf n).port.hbPtr (s.withWorkbuf n) = _ from
    unseen_addBytes n s.port.hbLen s.port.hbPtr s]
  cases addBytes s.port.hbLen s.port.hbPtr s <;> rfl

theorem unseen_execDecode (n : Nat) : Unseen n execDecode := fun _ => sameBut_ite rfl (sameBut_ite rfl (sameBut_ite rfl rfl))

/-- No element of the stream sees the constant. -/
theorem unseen_shapeMeaning (n : Nat) {h : Shape} (hc : ∀ c, h ≠ .command c) : Unseen n (shapeMeaning h) := by
  intro s
  cases h with
  | header t f =>
    exact sameBut_ite (unseen_alignToStored n (s.latchHeader 0 f)) (sameBut_ite rfl (sameBut_ite rfl rfl))
  | pad k p => exact unseen_alignToStored n s
  | storedLen len nlen => exact unseen_execStoredLen n len nlen s
  | storedByte b => exact unseen_execStoredByte n b s
  | dynHdr hlit hdist hclen => exact unseen_execDynHdr n hlit hdist hclen s
  | cll l => rfl
  | cl k x =>
    exact sameBut_ite rfl (sameBut_ite rfl (unseen_applyRepeat n x (s.latchRepeat (BitVec.ofNat 5 k))))
  | ll k x =>
    exact sameBut_ite (unseen_litOut n { s with loc := { s.loc with lit := BitVec.ofNat 8 k }, fsm := .litOut })
      (sameBut_ite rfl (sameBut_ite rfl rfl))
  | dist k x => exact sameBut_ite (unseen_finishDist n x (s.latchDist _ _)) rfl
  | command c => exact absurd rfl (hc c)

theorem unseen_exec (n : Nat) {i : Instr} (hi : i ≠ .workbufLen) : Unseen n (exec i) := by
  rcases element_or_command i with hc | rfl | rfl | rfl | rfl
  · rw [show exec i = shapeMeaning i.shape from funext (exec_eq_meaning i)]
    exact unseen_shapeMeaning n hc
  · exact fun _ => rfl
  · exact unseen_execDecode n
  · exact unseen_execAddHistory n
  · exact absurd rfl hi

/-- Settles O36: WORKBUF_LEN writes the constant, which fits its register in a valid configuration. -/
theorem workbufLen : Obligations.WorkbufLen := by
  refine ⟨fun s n hn => ?_, fun i s n hi => unseen_exec n hi s⟩
  have hw : s.workbufValue = n := by
    rcases hn with rfl | ⟨⟨-, hfit⟩, rfl⟩
    · rfl
    · exact Nat.mod_eq_of_lt hfit
  show execWorkbufLen s = _
  rw [execWorkbufLen, hw]
  rfl

/-! ### The host's side of the registers (R40, R331, R371) -/

theorem flags_bits (s : State) :
    s.flags.getLsbD 0 = s.busy ∧ s.flags.getLsbD 1 = s.disabled ∧ (s.flags.getLsbD 2 = true ↔ s.fsm = .done) := by
  have hbits : ∀ b d f : Bool, (BitVec.ofBool f ++ BitVec.ofBool d ++ BitVec.ofBool b).getLsbD 0 = b ∧
      (BitVec.ofBool f ++ BitVec.ofBool d ++ BitVec.ofBool b).getLsbD 1 = d ∧
      (BitVec.ofBool f ++ BitVec.ofBool d ++ BitVec.ofBool b).getLsbD 2 = f := by decide
  obtain ⟨h0, h1, h2⟩ := hbits s.busy s.disabled (decide (s.fsm = .done))
  exact ⟨h0, h1, by rw [State.flags, h2, decide_eq_true_eq]⟩

/-- A register the host may not read. -/
theorem readRegister_none {n : Nat} (h1 : n ≠ 1) (h2 : n ≠ 2) (h5 : n ≠ 5) (h11 : n ≠ 11) (h12 : n ≠ 12) (h13 : n ≠ 13)
    (s : State) : readRegister n s = none := by
  unfold readRegister
  split <;> trivial

/-- A register the host may not write, CMD aside. -/
theorem writeOperand_none {n : Nat} (hn : n = 1 ∨ 11 ≤ n) (w v : Nat) (p : Port) : writeOperand w n v p = none := by
  unfold writeOperand
  split <;> simp_all

theorem hostRead_of_idle {s : State} (hb : s.busy = false) {n v : Nat} (h : readRegister n s = some v) : hostRead n s = .ok v := by
  rw [hostRead, h, hb]
  rfl

theorem hostRead_of_busy {s : State} (hb : s.busy = true) {n v : Nat} (hn : n ≠ 13) (h : readRegister n s = some v) :
    hostRead n s = .error .hostAccessWhileBusy := by
  rw [hostRead, h, hb]
  simp [hn]

theorem hostRead_flags (s : State) : hostRead 13 s = .ok s.flags.toNat := by
  show (if s.busy && (13 : Nat) != 13 then _ else _) = _
  simp

/-- A write of an operand register by an idle engine's host. -/
theorem hostWrite_of_idle {s : State} (hb : s.busy = false) {n v : Nat} (hn : n ≠ 0) {p : Port}
    (h : writeOperand s.par.addrW n v s.port = some p) : hostWrite n v s = .next { s with port := p } := by
  rw [hostWrite, if_neg (by simp [hb]), if_neg hn, h]

theorem hostWrite_cmd {s : State} (hb : s.busy = false) (v : Nat) :
    hostWrite 0 v s = .next { s with busy := true, port := { s.port with cmd := BitVec.ofNat 2 v } } := by
  rw [hostWrite, if_neg (by simp [hb]), if_pos rfl, hostCommand, if_neg (by simp [hb])]

theorem hostWrite_none {s : State} (hb : s.busy = false) {n : Nat} (hn : n = 1 ∨ 11 ≤ n) (v : Nat) :
    hostWrite n v s = .refused .noHostAccess := by
  rw [hostWrite, if_neg (by simp [hb]), if_neg (by omega), writeOperand_none hn]

theorem hostWrite_busy {s : State} (hb : s.busy = true) {n : Nat} (hn : n ≠ 0) (v : Nat) :
    hostWrite n v s = .refused .hostAccessWhileBusy := by
  rw [hostWrite, if_pos hb, if_neg hn]

/-- An operand register takes the low bits it has room for. -/
theorem portOk_writeOperand {s : State} (hs : s.PortOk) {n v : Nat} {p : Port}
    (h : writeOperand s.par.addrW n v s.port = some p) : State.PortOk { s with port := p } := by
  obtain ⟨h1, h2, h3, h4, h5, h6, h7, h8, h9, h10⟩ := hs
  have hw : v % 2 ^ s.par.addrW < 2 ^ s.par.addrW := Nat.mod_lt _ (Nat.two_pow_pos _)
  unfold writeOperand at h
  split at h <;> cases h
  · exact ⟨hw, h2, h3, h4, h5, h6, h7, h8, h9, h10⟩
  · exact ⟨h1, hw, h3, h4, h5, h6, h7, h8, h9, h10⟩
  · exact ⟨h1, h2, h3, h4, h5, h6, h7, h8, h9, h10⟩
  · exact ⟨h1, h2, hw, h4, h5, h6, h7, h8, h9, h10⟩
  · exact ⟨h1, h2, h3, hw, h5, h6, h7, h8, h9, h10⟩
  · exact ⟨h1, h2, h3, h4, hw, h6, h7, h8, h9, h10⟩
  · exact ⟨h1, h2, h3, h4, h5, hw, h7, h8, h9, h10⟩
  · exact ⟨h1, h2, h3, h4, h5, h6, hw, h8, h9, h10⟩
  · exact ⟨h1, h2, h3, h4, h5, h6, h7, hw, h9, h10⟩

theorem portOk_hostWrite {s t : State} {n v : Nat} (hs : s.PortOk) (h : hostWrite n v s = .next t) : t.PortOk := by
  cases hb : s.busy with
  | true =>
    rw [hostWrite, if_pos hb] at h
    cases h
  | false =>
    by_cases hn : n = 0
    · rw [hn, hostWrite_cmd hb] at h
      cases h
      exact hs
    · cases hp : writeOperand s.par.addrW n v s.port with
      | none =>
        rw [hostWrite, if_neg (by simp [hb]), if_neg hn, hp] at h
        cases h
      | some p =>
        rw [hostWrite_of_idle hb hn hp] at h
        cases h
        exact portOk_writeOperand hs hp

/-- Settles O7: the registers one by one. -/
theorem hostRegisters : Obligations.HostRegisters := by
  refine ⟨flags_bits, rfl, fun s hb => ?_, fun s hb n hn => ?_, hostRead_flags, fun s n h1 h2 h5 h11 h12 h13 => ?_,
    fun s v hb => ?_, fun s n v hb hn => hostWrite_busy hb hn v, fun s t n v => portOk_hostWrite⟩
  · exact ⟨hostRead_of_idle hb rfl, hostRead_of_idle hb rfl, hostRead_of_idle hb rfl, hostRead_of_idle hb rfl,
      hostRead_of_idle hb rfl⟩
  · rcases hn with rfl | rfl | rfl | rfl | rfl <;> exact hostRead_of_busy hb (by decide) rfl
  · rw [hostRead, readRegister_none h1 h2 h5 h11 h12 h13]
  · have write {n : Nat} (hn : n ≠ 0) {p : Port} (hp : writeOperand s.par.addrW n v s.port = some p) :
        hostWrite n v s = .next { s with port := p } := hostWrite_of_idle hb hn hp
    exact ⟨hostWrite_cmd hb v, write (by decide) rfl, write (by decide) rfl, write (by decide) rfl, write (by decide) rfl,
      write (by decide) rfl, write (by decide) rfl, write (by decide) rfl, write (by decide) rfl, write (by decide) rfl,
      fun n hn => hostWrite_none hb hn v⟩

end Sys2Proof.Machine
end
section
/-! PROOF. The ranges of the counters (R27, R28, R221, R264, R266), state by state: the ranges a state asks for are those its
predecessors have checked, and a BASE entry of a built table brings the base and the extra field in range. -/

namespace Sys2Proof.Machine

/-! ### What each state asks for -/

/-- The states that ask for no counter. -/
def Fsm.free : Fsm → Bool
  | .dynCll | .dynLensSym | .dynLensExtra | .dynBuild | .lenExtra | .distSym | .distExtra | .copy => false
  | _ => true

theorem countersOk_of_free {s : State} (h : s.fsm.free = true) : s.CountersOk := by
  cases hf : s.fsm <;> simp [hf, Fsm.free] at h <;> simp [State.CountersOk, hf]

/-- The counts of a dynamic header are in range (R221). -/
def State.HeaderOk (s : State) : Prop :=
  257 ≤ s.loc.hlit.toNat ∧ s.loc.hlit.toNat ≤ 286 ∧ 1 ≤ s.loc.hdist.toNat ∧ s.loc.hdist.toNat ≤ 30

theorem countersOk_dynCll {s : State} (hf : s.fsm = .dynCll) :
    s.CountersOk ↔ (s.loc.i.toNat ≤ s.loc.hclen.toNat ∧ 4 ≤ s.loc.hclen.toNat ∧ s.loc.hclen.toNat ≤ 19) ∧ s.HeaderOk := by
  simp [State.CountersOk, State.HeaderOk, hf]

theorem countersOk_lens {s : State} (hf : s.fsm = .dynLensSym ∨ s.fsm = .dynLensExtra) :
    s.CountersOk ↔ s.HeaderOk ∧ s.loc.i.toNat ≤ s.lensTotal := by
  rcases hf with hf | hf <;> simp [State.CountersOk, State.HeaderOk, hf]

theorem countersOk_dynBuild {s : State} (hf : s.fsm = .dynBuild) :
    s.CountersOk ↔ s.HeaderOk ∧ s.loc.i.toNat = s.lensTotal := by
  simp [State.CountersOk, State.HeaderOk, hf]

theorem countersOk_lenExtra {s : State} (hf : s.fsm = .lenExtra) :
    s.CountersOk ↔ 3 ≤ s.loc.lbase.toNat ∧ s.loc.lbase.toNat + 2 ^ s.loc.lnx.toNat ≤ 259 := by
  simp [State.CountersOk, hf]

theorem countersOk_distSym {s : State} (hf : s.fsm = .distSym) :
    s.CountersOk ↔ 3 ≤ s.loc.length.toNat ∧ s.loc.length.toNat ≤ 258 := by
  simp [State.CountersOk, hf]

theorem countersOk_distExtra {s : State} (hf : s.fsm = .distExtra) :
    s.CountersOk ↔ (3 ≤ s.loc.length.toNat ∧ s.loc.length.toNat ≤ 258) ∧
      1 ≤ s.loc.dbase.toNat ∧ s.loc.dbase.toNat + 2 ^ s.loc.dnx.toNat ≤ 32769 := by
  simp [State.CountersOk, hf]

theorem countersOk_copy {s : State} (hf : s.fsm = .copy) :
    s.CountersOk ↔ 1 ≤ s.loc.dist.toNat ∧ s.loc.dist.toNat ≤ s.win.hfill.toNat ∧ 1 ≤ s.loc.rem.toNat ∧ s.loc.rem.toNat ≤ 258 := by
  simp [State.CountersOk, hf]

/-- The counters look at the resume point, the locals and the fill count, which may grow. -/
theorem countersOk_of_same {s t : State} (hs : s.CountersOk) (hf : t.fsm = s.fsm) (hl : t.loc = s.loc)
    (hw : s.win.hfill.toNat ≤ t.win.hfill.toNat) : t.CountersOk := by
  have htot : t.lensTotal = s.lensTotal := by rw [State.lensTotal, State.lensTotal, hl]
  unfold State.CountersOk at hs ⊢
  rw [hf, hl, htot]
  obtain ⟨h1, h2, h3, h4, h5, h6, h7, h8⟩ := hs
  refine ⟨h1, h2, h3, h4, h5, h6, h7, fun hc => ?_⟩
  obtain ⟨hd1, hd2, hr⟩ := h8 hc
  exact ⟨hd1, hd2.trans hw, hr⟩

/-- The counters of every next state are in range. -/
abbrev Counts (o : Result) : Prop := Gives (fun t => t.CountersOk) o

theorem counts_same {s t : State} (hs : s.CountersOk) (hf : t.fsm = s.fsm) (hl : t.loc = s.loc) (hw : t.win = s.win) :
    Counts (.next t) := gives_next (countersOk_of_same hs hf hl (by rw [hw]))

theorem counts_free {t : State} (h : t.fsm.free = true) : Counts (.next t) := gives_next (countersOk_of_free h)

/-! ### Reads -/

theorem BitFrame.countersOk {s t : State} (h : BitFrame s t) (hs : s.CountersOk) : t.CountersOk := by
  rw [h.same]
  exact hs

theorem ReadStop.counts {s : State} {o : Result} (h : ReadStop s o) (hs : s.CountersOk) : Counts o := by
  cases h with
  | exhausted t ht _ =>
    rcases inputExhausted_cases t with h | h <;> rw [h] <;> exact gives_next (ht.countersOk hs)
  | bitCount t ht | empty t ht => exact gives_next (ht.countersOk hs)
  | noAddress => exact gives_fault _

theorem counts_run {α : Type} {s : State} {r : Res α} {k : α → State → Result} (hs : s.CountersOk)
    (hr : (∀ a t, r = .val a t → BitFrame s t) ∧ ∀ o, r = .stop o → ReadStop s o)
    (hk : ∀ a t, r = .val a t → BitFrame s t → t.CountersOk → Counts (k a t)) : Counts (r.run k) := by
  cases r with
  | val a t => exact hk a t rfl (hr.1 a t rfl) ((hr.1 a t rfl).countersOk hs)
  | stop o => exact (hr.2 o rfl).counts hs

/-! ### The dynamic header (R221 to R229) -/

theorem gives_buildTab0 {P : State → Prop} {A : Alphabet} {lens : List Nat} {s : State} {k : State → Result}
    (hk : ∀ tab, Gives P (k { s with tab0 := tab })) (hr : ∀ e, P (s.raise e)) : Gives P (buildTab0 A lens s k) := by
  unfold buildTab0
  split
  · exact hk _
  · exact gives_next (hr _)

theorem gives_buildTab1 {P : State → Prop} {A : Alphabet} {lens : List Nat} {s : State} {k : State → Result}
    (hk : ∀ tab, Gives P (k { s with tab1 := tab })) (hr : ∀ e, P (s.raise e)) : Gives P (buildTab1 A lens s k) := by
  unfold buildTab1
  split
  · exact hk _
  · exact gives_next (hr _)

theorem toNat_hlitOf (v : BitVec 5) : (hlitOf v).toNat = v.toNat + 257 := by
  have := v.isLt
  simp [hlitOf]
  omega

theorem toNat_hdistOf (v : BitVec 5) : (hdistOf v).toNat = v.toNat + 1 := by
  have := v.isLt
  simp [hdistOf]
  omega

theorem toNat_hclenOf (v : BitVec 4) : (hclenOf v).toNat = v.toNat + 4 := by
  have := v.isLt
  simp [hclenOf]
  omega

theorem counts_execDynHdr (hlit hdist : BitVec 5) (hclen : BitVec 4) {s : State} (hf : s.fsm = .dynHdr) :
    Counts (execDynHdr hlit hdist hclen s) := by
  refine gives_ite (fun _ => counts_free (by simp [hf, Fsm.free])) fun hr => gives_next ((countersOk_dynCll rfl).mpr ?_)
  obtain ⟨h1, h2⟩ := not_or.mp hr
  have h3 := toNat_hlitOf hlit
  have h4 := toNat_hdistOf hdist
  have h5 := toNat_hclenOf hclen
  have h6 := hclen.isLt
  exact ⟨⟨Nat.zero_le _, by dsimp only; omega, by dsimp only; omega⟩, by dsimp only; omega, Nat.not_lt.mp h1, by dsimp only; omega,
    Nat.not_lt.mp h2⟩

/-- A counter below its 9 bits goes up by what is added. -/
theorem toNat_add_ofNat {i : BitVec 9} {n : Nat} (h : i.toNat + n < 512) : (i + BitVec.ofNat 9 n).toNat = i.toNat + n := by
  rw [BitVec.toNat_add, BitVec.toNat_ofNat]
  omega

theorem counts_execCll (l : BitVec 3) {s : State} (hs : s.CountersOk) (hf : s.fsm = .dynCll)
    (hi : s.loc.i.toNat < s.loc.hclen.toNat) : Counts (execCll l s) := by
  obtain ⟨⟨-, h1, h2⟩, hh⟩ := (countersOk_dynCll hf).mp hs
  refine gives_next ((countersOk_dynCll (by exact hf)).mpr ⟨⟨?_, h1, h2⟩, hh⟩)
  exact (toNat_add_ofNat (i := s.loc.i) (n := 1) (by omega)).trans_le hi

theorem clearTail_frame (s : State) (ks : List Nat) : s.clearTail ks = { s with lens := (s.clearTail ks).lens } := by
  induction ks generalizing s with
  | nil => rfl
  | cons k ks ih => rw [State.clearTail, ih]; rfl

theorem fillLens_frame (s : State) (i : Nat) (v : BitVec 4) (n : Nat) :
    s.fillLens i v n = { s with lens := (s.fillLens i v n).lens } := by
  induction n generalizing s i with
  | zero => rfl
  | succ n ih => rw [State.fillLens, ih]; rfl

theorem counts_cllDone {s : State} (hs : s.CountersOk) (hf : s.fsm = .dynCll) : Counts (cllDone s) := by
  unfold cllDone
  rw [clearTail_frame]
  obtain ⟨-, hh⟩ := (countersOk_dynCll hf).mp hs
  exact gives_buildTab0 (fun _ => gives_next ((countersOk_lens (.inl rfl)).mpr ⟨hh, Nat.zero_le _⟩)) fun _ => hs

theorem counts_fetchCll {s : State} (hs : s.CountersOk) (hf : s.fsm = .dynCll) : Counts (fetchCll s).run := by
  unfold fetchCll
  split
  next hi =>
    rw [run_fetch]
    refine counts_run hs (take_frame (by omega) s) fun v t _ ht hts => ?_
    refine counts_execCll _ (s := { t with inLoop := true }) hts ?_ ?_
    · rw [ht.same]
      exact hf
    · rw [ht.same]
      exact hi
  next => exact counts_cllDone hs hf

theorem lensTotal_le {s : State} (h : s.HeaderOk) : s.lensTotal ≤ 316 := by
  obtain ⟨-, h1, -, h2⟩ := h
  rw [State.lensTotal]
  omega

theorem counts_codeLength (n : BitVec 4) {s : State} (hs : s.CountersOk) (hf : s.fsm = .dynLensSym)
    (hi : s.loc.i.toNat ≠ s.lensTotal) : Counts (codeLength n s) := by
  obtain ⟨hh, hle⟩ := (countersOk_lens (.inl hf)).mp hs
  have htot := lensTotal_le hh
  refine gives_next ((countersOk_lens (.inl (by exact hf))).mpr ⟨hh, ?_⟩)
  exact (toNat_add_ofNat (i := s.loc.i) (n := 1) (by omega)).trans_le (Nat.lt_of_le_of_ne hle hi)

/-- A run that the total admits (R227). -/
theorem counts_applyRepeat (x : Nat) {s : State} (hs : s.CountersOk) (hf : s.fsm = .dynLensExtra) :
    Counts (applyRepeat x s) := by
  obtain ⟨hh, hle⟩ := (countersOk_lens (.inr hf)).mp hs
  have htot := lensTotal_le hh
  unfold applyRepeat
  dsimp only
  rw [fillLens_frame]
  refine gives_ite (fun _ => gives_next hs) fun hfit => gives_next ((countersOk_lens (.inl rfl)).mpr ⟨hh, ?_⟩)
  have hle' : s.loc.i.toNat + repeatCount s.loc.repsym.toNat x ≤ s.lensTotal := Nat.not_lt.mp hfit
  exact (toNat_add_ofNat (i := s.loc.i) (by omega)).trans_le hle'

theorem counts_clRest (y : Symbol) {s : State} (hs : s.CountersOk) (hf : s.fsm = .dynLensSym)
    (hi : s.loc.i.toNat ≠ s.lensTotal) : Counts (clRest y s) := by
  unfold clRest
  have hn : repeatExtra (entryPayload y.entry).toNat ≤ 32 := (repeatExtra_le _).trans (by decide)
  refine gives_ite (fun _ => gives_next hs) fun _ => gives_ite (fun _ => counts_codeLength _ hs hf hi) fun _ =>
    gives_ite (fun _ => gives_next hs) fun _ => ?_
  have hl : (s.latchRepeat (BitVec.ofNat 5 (entryPayload y.entry).toNat)).CountersOk :=
    (countersOk_lens (.inr rfl)).mpr ((countersOk_lens (.inl hf)).mp hs)
  refine counts_run hl (take_frame hn _) fun x t _ ht hts =>
    gives_ite (fun _ => counts_applyRepeat _ hts ?_) fun _ => gives_next hts
  rw [ht.same]
  rfl

/-! ### Lengths and distances (R261 to R266) -/

/-- A lookup answers an entry of the table. -/
theorem lookup_entry (tab : Table) (w : Acc) : ∃ i, (lookup tab w).1 = readTable tab i := by
  unfold lookup
  dsimp only
  split
  · exact ⟨_, rfl⟩
  · exact ⟨_, rfl⟩

/-- A decoded symbol's entry is one a lookup answers. -/
theorem decodeSym_entry {tab : Table} {s t : State} {y : Symbol} (h : decodeSym tab s = .val y t) :
    ∃ w, (lookup tab w).1 = y.entry := by
  rcases decodeSym_spec tab s with ⟨y', t', h', -, -, u, -, hl, -⟩ | ⟨o, h', -⟩
  · obtain ⟨rfl, -⟩ := Res.val.inj (h.symm.trans h')
    exact ⟨u.bits, by rw [hl]⟩
  · cases h.symm.trans h'

/-- A length's base and extra field stay within 3 to 258 (R104). -/
theorem lenBase_range : ∀ j < 29, 3 ≤ lenBase.getD j 0 ∧ lenBase.getD j 0 + 2 ^ lenExtra.getD j 0 ≤ 259 ∧ lenExtra.getD j 0 < 8 := by
  decide

/-- A distance's base and extra field stay within 1 to 32768 (R105). -/
theorem distBase_range : ∀ j < 30, 1 ≤ distBase.getD j 0 ∧ distBase.getD j 0 + 2 ^ distExtra.getD j 0 ≤ 32769 ∧
    distBase.getD j 0 < 2 ^ 15 := by
  decide

theorem counts_finishLength {x : Nat} {s : State} (hs : s.CountersOk) (hf : s.fsm = .lenExtra) (hx : x < 2 ^ s.loc.lnx.toNat) :
    Counts (finishLength x s) := by
  obtain ⟨h1, h2⟩ := (countersOk_lenExtra hf).mp hs
  refine gives_next ((countersOk_distSym rfl).mpr ?_)
  have hlen : (assembleLength s.loc.lbase x).toNat = s.loc.lbase.toNat + x := by
    rw [assembleLength_eq, BitVec.toNat_ofNat, Nat.mod_eq_of_lt (by omega)]
  dsimp only
  omega

/-- A copy counts REM down to nothing, or stops with some left (R302). -/
theorem counts_copyLoop (n : Nat) {s : State} (hf : s.fsm = .copy) (hrem : s.loc.rem.toNat = n) (hn : n ≤ 258)
    (hd : 1 ≤ s.loc.dist.toNat ∧ s.loc.dist.toNat ≤ s.win.hfill.toNat) (hw : s.win.hfill.toNat ≤ 32768) :
    Counts (copyLoop n s) := by
  induction n generalizing s with
  | zero => exact counts_free rfl
  | succ n ih =>
    refine gives_ite (fun _ => gives_next ((countersOk_copy (by exact hf)).mpr ⟨hd.1, hd.2, ?_, ?_⟩)) fun _ =>
      gives_ite (fun _ => ih (s := s.copied) hf ?_ (by omega) ?_ ?_) fun _ => gives_fault _
    · exact hrem ▸ Nat.succ_pos n
    · exact hrem ▸ hn
    · rw [State.copied_loc, BitVec.toNat_sub]
      simp
      omega
    · have hfill : s.copied.win.hfill.toNat = min (s.win.hfill.toNat + 1) 32768 := toNat_fillCount _
      rw [hfill, State.copied_loc]
      dsimp only
      omega
    · have hfill : s.copied.win.hfill.toNat = min (s.win.hfill.toNat + 1) 32768 := toNat_fillCount _
      omega

theorem counts_copyRun {s : State} (hs : s.CountersOk) (hf : s.fsm = .copy) (hw : s.win.hfill.toNat ≤ 32768) :
    Counts (copyRun s) := by
  obtain ⟨h1, h2, -, h4⟩ := (countersOk_copy hf).mp hs
  exact counts_copyLoop _ hf rfl h4 ⟨h1, h2⟩ hw

/-- A distance that passes its check is one the copy can run with (R266). -/
theorem counts_finishDist {x : Nat} {s : State} (hs : s.CountersOk) (hf : s.fsm = .distExtra) (hw : s.win.hfill.toNat ≤ 32768) :
    Counts (finishDist x s) := by
  obtain ⟨⟨h1, h2⟩, hbase⟩ := (countersOk_distExtra hf).mp hs
  refine gives_ite (fun _ => gives_next ((countersOk_distExtra (by exact hf)).mpr ⟨⟨h1, h2⟩, hbase⟩)) fun hd => ?_
  obtain ⟨h0, hle⟩ := not_or.mp hd
  have hpos : (assembleDist s.loc.dbase x).toNat ≠ 0 := fun hz => h0 (BitVec.eq_of_toNat_eq hz)
  have hrem : (s.loc.length.setWidth 16).toNat = s.loc.length.toNat := by
    rw [BitVec.toNat_setWidth]
    omega
  refine counts_copyRun ((countersOk_copy rfl).mpr ⟨Nat.pos_of_ne_zero hpos, Nat.not_lt.mp hle, ?_, ?_⟩) rfl hw
  · dsimp only
    omega
  · dsimp only
    omega

theorem counts_litOut {s : State} (hf : s.fsm = .litOut) : Counts (litOut s) := by
  refine gives_ite (fun _ => counts_free (by simp [hf, Fsm.free])) fun _ => ?_
  rcases emit_cases s.loc.lit s with ⟨-, h⟩ | ⟨-, h⟩ <;> rw [h]
  · exact counts_free rfl
  · exact gives_fault _

theorem counts_llRest {y : Symbol} {s : State} (hf : s.fsm = .llSym) (htab : LengthEntries s.tab0) {w : Acc}
    (hy : (lookup s.tab0 w).1 = y.entry) : Counts (llRest y s) := by
  have hs : s.CountersOk := countersOk_of_free (by simp [hf, Fsm.free])
  unfold llRest
  cases hk : entryKind y.entry with
  | lit => exact counts_litOut rfl
  | eob => exact counts_free rfl
  | base =>
    obtain ⟨i, hi⟩ := lookup_entry s.tab0 w
    rw [hy] at hi
    obtain ⟨j, hj, hpay, hnx⟩ := htab i (hi ▸ hk)
    rw [← hi] at hpay hnx
    obtain ⟨h1, h2, h3⟩ := lenBase_range j hj
    have hpow : 2 ^ lenExtra.getD j 0 ≥ 1 := Nat.two_pow_pos _
    have hl : (s.latchLen ((entryPayload y.entry).setWidth 9) ((entryNX y.entry).setWidth 3)).CountersOk := by
      refine (countersOk_lenExtra rfl).mpr ?_
      rw [State.latchLen_loc]
      dsimp only
      rw [BitVec.toNat_setWidth, BitVec.toNat_setWidth, hpay, hnx, Nat.mod_eq_of_lt (show lenBase.getD j 0 < 2 ^ 9 by omega),
        Nat.mod_eq_of_lt h3]
      exact ⟨h1, h2⟩
    refine counts_run hl (take_frame (by omega) _) fun x t hx ht hts => counts_finishLength hts ?_ ?_
    · rw [ht.same]
      rfl
    · rw [ht.same]
      exact take_lt (by omega) hx
  | invalid => exact gives_next hs
  | _ => exact gives_next hs

theorem counts_distRest {y : Symbol} {s : State} (hs : s.CountersOk) (hf : s.fsm = .distSym) (htab : DistanceEntries s.tab1)
    {w : Acc} (hy : (lookup s.tab1 w).1 = y.entry) (hw : s.win.hfill.toNat ≤ 32768) : Counts (distRest y s) := by
  unfold distRest
  cases hk : entryKind y.entry with
  | base =>
    obtain ⟨i, hi⟩ := lookup_entry s.tab1 w
    rw [hy] at hi
    obtain ⟨j, hj, hpay, hnx⟩ := htab i (hi ▸ hk)
    rw [← hi] at hpay hnx
    obtain ⟨h1, h2, h3⟩ := distBase_range j hj
    have hl : (s.latchDist ((entryPayload y.entry).setWidth 15) (entryNX y.entry)).CountersOk := by
      refine (countersOk_distExtra rfl).mpr ⟨(countersOk_distSym hf).mp hs, ?_⟩
      rw [State.latchDist_loc]
      dsimp only
      rw [BitVec.toNat_setWidth, hpay, hnx, Nat.mod_eq_of_lt h3]
      exact ⟨h1, h2⟩
    refine counts_run hl (take_frame (by omega) _) fun x t _ ht hts => counts_finishDist hts ?_ ?_
    · rw [ht.same]
      rfl
    · rw [ht.same]
      exact hw
  | invalid => exact gives_next hs
  | _ => exact gives_next hs

/-! ### Every pass -/

theorem counts_fixedInit {s : State} (hf : s.fsm = .fixedInit) : Counts (fixedInit s) := by
  unfold fixedInit
  generalize fixedLens = l
  exact gives_buildTab0 (fun _ => gives_buildTab1 (fun _ => counts_free rfl) fun _ => countersOk_of_free (by simp [hf, Fsm.free]))
    fun _ => countersOk_of_free (by simp [hf, Fsm.free])

theorem counts_dynBuild {s : State} (hs : s.CountersOk) : Counts (dynBuild s) :=
  gives_ite (fun _ => gives_next hs) fun _ =>
    gives_buildTab0 (fun _ => gives_buildTab1 (fun _ => counts_free rfl) fun _ => hs) fun _ => hs

/-- A header leads to states that ask for no counter (R190). -/
theorem counts_header (v : BitVec 3) {s : State} (hf : s.fsm = .hdr) : Counts (exec (decodeHeader v) s) := by
  have hraise : s.fsm.free = true := by simp [hf, Fsm.free]
  unfold decodeHeader
  split
  · show Counts (alignToStored _)
    unfold alignToStored
    rcases align_cases (s.latchHeader 0 (v.getLsbD 0)) fun t => .next { t with fsm := .storedLen } with h | h <;> rw [h]
    · exact counts_free rfl
    · exact counts_free hraise
  · exact counts_free rfl
  · exact counts_free rfl
  · exact counts_free hraise

theorem counts_fetchStored {s : State} (hf : s.fsm = .storedCopy) : Counts (fetchStored s).run := by
  have hfree : s.fsm.free = true := by simp [hf, Fsm.free]
  have hs := countersOk_of_free hfree
  unfold fetchStored
  split
  · exact counts_free rfl
  split
  · exact gives_next hs
  split
  next he => exact (ReadStop.exhausted s (.refl s) he).counts hs
  split
  · exact fun t ht => countersOk_of_free ((congrArg Fsm.free (execStoredByte_fsm _ _ t ht)).trans hfree)
  · exact gives_fault _

/-- Every pass of the loop leaves the counters in range (R341). -/
theorem counts_fetchElement {s : State} (hs : s.CountersOk) (htab : s.EntriesOk) (hw : s.win.hfill.toNat ≤ 32768) :
    Counts (fetchElement s).run := by
  obtain ⟨hlen, hdist⟩ := htab
  unfold fetchElement
  cases hf : s.fsm <;> dsimp only
  case hdr =>
    rw [run_fetch]
    refine counts_run hs (take_frame (by omega) s) fun v t _ ht _ => counts_header _ ?_
    rw [ht.same]
    exact hf
  case storedLen =>
    rw [run_fetch]
    exact counts_run hs (take_frame (by omega) s) fun v t _ _ hts =>
      gives_ite (fun _ => gives_next hts) fun _ => counts_free rfl
  case storedCopy => exact counts_fetchStored hf
  case fixedInit =>
    rw [Fetched.run]
    exact counts_fixedInit hf
  case dynHdr =>
    rw [run_fetch]
    refine counts_run hs (take_frame (by omega) s) fun v t _ ht _ => counts_execDynHdr _ _ _ ?_
    rw [ht.same]
    exact hf
  case dynCll => exact counts_fetchCll hs hf
  case dynLensSym =>
    by_cases hi : s.loc.i.toNat = s.lensTotal
    · rw [fetchCL, if_pos hi]
      exact gives_next ((countersOk_dynBuild rfl).mpr ⟨((countersOk_lens (.inl hf)).mp hs).1, hi⟩)
    · rw [run_fetchCL hi]
      refine counts_run hs (decodeSym_frame _ s) fun y t _ ht hts => counts_clRest y hts ?_ ?_ <;> rw [ht.same]
      · exact hf
      · exact hi
  case dynLensExtra =>
    unfold resumeRepeat
    split
    · exact gives_next hs
    · have hn : repeatExtra s.loc.repsym.toNat ≤ 32 := (repeatExtra_le _).trans (by decide)
      rw [run_fetch]
      refine counts_run hs (take_frame hn s) fun x t _ ht hts => counts_applyRepeat _ hts ?_
      rw [ht.same]
      exact hf
  case dynBuild => exact counts_dynBuild hs
  case llSym =>
    rw [run_fetchLL]
    refine counts_run hs (decodeSym_frame _ s) fun y t hy ht _ => ?_
    obtain ⟨w, hw⟩ := decodeSym_entry hy
    have htab : t.tab0 = s.tab0 := by rw [ht.same]
    refine counts_llRest (w := w) ?_ (htab ▸ hlen) (htab ▸ hw)
    rw [ht.same]
    exact hf
  case litOut => exact counts_litOut hf
  case lenExtra =>
    rw [run_fetch]
    refine counts_run hs (take_frame (by omega) s) fun x t hx ht hts => counts_finishLength hts ?_ ?_ <;> rw [ht.same]
    · exact hf
    · exact take_lt (by omega) hx
  case distSym =>
    rw [run_fetchDist]
    refine counts_run hs (decodeSym_frame _ s) fun y t hy ht hts => ?_
    obtain ⟨w, hyw⟩ := decodeSym_entry hy
    have htab : t.tab1 = s.tab1 := by rw [ht.same]
    refine counts_distRest (w := w) hts ?_ (htab ▸ hdist) (htab ▸ hyw) ?_ <;> rw [ht.same]
    · exact hf
    · exact hw
  case distExtra =>
    rw [run_fetch]
    refine counts_run hs (take_frame (by omega) s) fun x t _ ht hts => counts_finishDist hts ?_ ?_ <;> rw [ht.same]
    · exact hf
    · exact hw
  case copy => exact counts_copyRun hs hf hw
  case blockEnd => exact gives_ite (fun _ => counts_free rfl) fun _ => counts_free rfl
  case done => exact gives_next hs

/-! ### Every step -/

/-- ADD_HISTORY only fills the history (R303). -/
theorem execAddHistory_hfill {s t : State} (hw : s.win.hfill.toNat ≤ 32768) (h : execAddHistory s = .next t) :
    s.win.hfill.toNat ≤ t.win.hfill.toNat := by
  cases hd : s.disabled with
  | true =>
    rw [execAddHistory, if_pos hd] at h
    cases h
    exact Nat.le_refl _
  | false =>
    rcases execAddHistory_cases hd with ⟨-, h'⟩ | ⟨-, h'⟩ | ⟨-, h', -⟩ <;> rw [h'] at h <;> cases h
    rw [State.finish_win, appendMem_hfill _ _ _ hw]
    omega

/-- RESET, DECODE, ADD_HISTORY and WORKBUF_LEN. -/
theorem counts_command (c : BitVec 2) {s : State} (hs : s.CountersOk) (hw : s.win.hfill.toNat ≤ 32768) :
    Counts (exec (decodeCommand c) s) := by
  have hc : c = 0 ∨ c = 1 ∨ c = 2 ∨ c = 3 := by
    revert c
    decide
  rcases hc with rfl | rfl | rfl | rfl
  · exact counts_free rfl
  · intro t ht
    rcases execDecode_next ht with ⟨-, st, rfl⟩ | ⟨-, rfl⟩
    · exact hs
    · exact hs
  · intro t ht
    have hgrow := execAddHistory_hfill hw ht
    obtain ⟨st, heq⟩ := execAddHistory_next ht
    exact countersOk_of_same hs (by rw [heq]; rfl) (by rw [heq]; rfl) hgrow
  · exact gives_next hs

theorem counts_pass {s t : State} (hs : s.CountersOk) (htab : s.EntriesOk) (hw : s.win.hfill.toNat ≤ 32768)
    (h : pass s = .next t) : t.CountersOk := by
  rcases pass_next h with ⟨-, -, hp⟩ | ⟨-, -, -, u, hp, rfl⟩ | ⟨-, hp⟩
  · exact counts_fetchElement hs htab hw t hp
  · have hu : u.CountersOk := by
      refine counts_fetchElement ?_ ?_ ?_ u hp <;> rw [(readAhead_frame s).2]
      · exact hs
      · exact htab
      · exact hw
    exact hu
  · exact counts_command _ hs hw t hp

/-- Settles O49: each way a step can go leaves the counters in the ranges of the state it leads to. -/
theorem stepKeepsCounters : Obligations.StepKeepsCounters := by
  rintro s t ⟨-, -, ⟨hw, -⟩, -⟩ hs htab h
  rcases step_next h with rfl | ⟨-, hp⟩ | ⟨-, u, rfl | ⟨hp, -⟩, rfl⟩
  · exact hs
  · exact counts_pass hs htab hw hp
  · exact hs
  · have hu : u.CountersOk := counts_pass hs htab hw hp
    exact hu

end Sys2Proof.Machine
end
section
/-! PROOF. The stream as one number (R23, R131, R133, R136): a refill leaves it as it was, a consumption divides it, and a read that
finds its bits in the stream finds them, byte-minimally, however many of them were held. -/

namespace Sys2Proof.Machine

/-! ### Refill and consumption -/

/-- The bits of a byte laid above the held bits. -/
theorem toNat_or_shiftLeft {b : Acc} {n : Nat} (hb : b.toNat < 2 ^ n) (hn : n ≤ 24) (v : Byte) :
    (b ||| (v.setWidth 32 <<< n)).toNat = b.toNat + 2 ^ n * v.toNat := by
  have hv : v.toNat < 2 ^ 8 := v.isLt
  have hpow : 2 ^ n ≤ 2 ^ 24 := Nat.pow_le_pow_right (by decide) hn
  have hfit : v.toNat * 2 ^ n < 2 ^ 32 := by
    calc v.toNat * 2 ^ n < 2 ^ 8 * 2 ^ n := Nat.mul_lt_mul_of_pos_right hv (Nat.two_pow_pos n)
      _ ≤ 2 ^ 8 * 2 ^ 24 := Nat.mul_le_mul_left _ hpow
  rw [BitVec.toNat_or, BitVec.toNat_shiftLeft, Nat.shiftLeft_eq, BitVec.toNat_setWidth,
    Nat.mod_eq_of_lt (show v.toNat < 2 ^ 32 by omega), Nat.mod_eq_of_lt hfit, Nat.or_comm, Nat.mul_comm,
    ← Nat.two_pow_add_eq_or_of_lt hb, Nat.add_comm]

theorem streamLen_refilled {s : State} (hn : s.nbits.toNat ≤ 24) (hlt : s.port.srcPtr < s.port.srcEnd) :
    s.refilled.streamLen = s.streamLen := by
  rw [State.streamLen, State.streamLen, nbits_refilled hn, State.refilled_port]
  dsimp only
  omega

theorem streamValue_refilled {s : State} (hacc : s.AccOk) (hn : s.nbits.toNat ≤ 24) (hlt : s.port.srcPtr < s.port.srcEnd) :
    s.refilled.streamValue = s.streamValue := by
  have hlen : s.port.srcEnd - s.port.srcPtr = s.port.srcEnd - (s.port.srcPtr + 1) + 1 := by omega
  rw [State.streamValue, State.streamValue, nbits_refilled hn, State.refilled_bits, toNat_or_shiftLeft hacc.1 hn,
    State.refilled_port, State.refilled_mem, hlen, inputValue, Nat.pow_add]
  ring

theorem streamLen_consume {s : State} {n : Nat} (hn : n ≤ s.nbits.toNat) : (s.consume n).streamLen = s.streamLen - n := by
  rw [State.streamLen, State.streamLen, nbits_consume hn, State.consume_port]
  omega

theorem streamValue_consume {s : State} {n : Nat} (hn : n ≤ s.nbits.toNat) :
    (s.consume n).streamValue = s.streamValue / 2 ^ n := by
  obtain ⟨k, hk⟩ := Nat.exists_eq_add_of_le hn
  rw [State.streamValue, State.streamValue, nbits_consume hn, State.consume_port, State.consume_mem, State.consume_bits,
    BitVec.toNat_ushiftRight, Nat.shiftRight_eq_div_pow, hk, Nat.add_sub_cancel_left, Nat.pow_add, Nat.mul_assoc,
    Nat.add_mul_div_left _ _ (Nat.two_pow_pos n)]

/-- The held bits are the stream's first. -/
theorem bits_mod_eq {s : State} {n : Nat} (hn : n ≤ s.nbits.toNat) : s.bits.toNat % 2 ^ n = s.streamValue % 2 ^ n := by
  obtain ⟨k, hk⟩ := Nat.exists_eq_add_of_le hn
  rw [State.streamValue, hk, Nat.pow_add, Nat.mul_assoc, Nat.add_mul_mod_self_left]

/-- The field of the low `n` bits (R133). -/
theorem toNat_and_mask (b : Acc) (n : Nat) : (b &&& BitVec.ofNat 32 (2 ^ n - 1)).toNat = b.toNat % 2 ^ n := by
  refine Nat.eq_of_testBit_eq fun i => ?_
  rw [BitVec.toNat_and, BitVec.toNat_ofNat, Nat.testBit_and, Nat.testBit_mod_two_pow, Nat.testBit_two_pow_sub_one,
    Nat.testBit_mod_two_pow]
  by_cases hi : i < 32
  · simp [hi, Bool.and_comm]
  · have hb : b.toNat.testBit i = false :=
      Nat.testBit_lt_two_pow (b.isLt.trans_le (Nat.pow_le_pow_right (by decide) (Nat.not_lt.mp hi)))
    simp [hb]

/-! ### Reading ahead of need -/

/-- The input can be read: the accumulator in order, the cursor not past its end, the addresses in the space. -/
structure Readable (s : State) : Prop where
  acc : s.AccOk
  order : s.port.srcPtr ≤ s.port.srcEnd
  space : s.port.srcEnd ≤ 2 ^ s.par.addrW

theorem Readable.after {s t : State} (h : Readable s) (k : BitFrame s t) : Readable t := by
  refine ⟨k.acc h.acc, ?_, ?_⟩
  · rw [k.still.srcEnd]
    exact k.inside h.order
  · rw [k.still.srcEnd, k.still.par]
    exact h.space

/-- `t` is `s` with perhaps more of its stream held. -/
structure Fills (s t : State) : Prop where
  frame : BitFrame s t
  value : t.streamValue = s.streamValue
  len : t.streamLen = s.streamLen

theorem Fills.refl (s : State) : Fills s s := ⟨.refl s, rfl, rfl⟩

theorem Fills.trans {s t u : State} (h : Fills s t) (k : Fills t u) : Fills s u :=
  ⟨h.frame.trans k.frame, k.value.trans h.value, k.len.trans h.len⟩

/-- A readable stream that is not all held gives another byte. -/
theorem refill_fills {s : State} (hs : Readable s) (hn : s.nbits.toNat ≤ 24) (hlt : s.nbits.toNat < s.streamLen) :
    refill s = .val () s.refilled ∧ Fills s s.refilled := by
  have hsrc : s.port.srcPtr < s.port.srcEnd := by
    rw [State.streamLen] at hlt
    omega
  have hsp : s.inSpace s.port.srcPtr = true := decide_eq_true (hsrc.trans_le hs.space)
  refine ⟨?_, bitFrame_refilled hn hsrc.ne, streamValue_refilled hs.acc hn hsrc, streamLen_refilled hn hsrc⟩
  rw [refill, if_neg (Nat.not_lt.mpr hn), if_neg hsrc.ne, if_pos hsp]

/-- What a read looks for is found once the first `L` bits of the stream are held, and not before. -/
def FoundAt {α : Type} (found : State → Option (Res α)) (s : State) (L : Nat) : Prop :=
  ∀ t, Fills s t → (found t = none ↔ t.nbits.toNat < L)

/-- A read of what is in the stream finds it, no more than the byte it ends in read for it (R132, R136). -/
theorem ReadsTo.fills {α : Type} {found : State → Option (Res α)} {L : Nat} {s : State} {r : Res α} (h : ReadsTo found s r)
    (hs : Readable s) (hfound : FoundAt found s L) (hL : L ≤ s.streamLen) (h24 : L ≤ 25 ∨ L ≤ 32 ∧ s.nbits.toNat % 8 = 0) :
    ∃ t, Fills s t ∧ found t = some r ∧ L ≤ t.nbits.toNat ∧ (t.nbits.toNat = s.nbits.toNat ∨ t.nbits.toNat < L + 8) := by
  induction h with
  | @done s r h =>
    have hn := (hfound s (.refl s)).not.mp (by simp [h])
    exact ⟨s, .refl s, h, Nat.not_lt.mp hn, .inl rfl⟩
  | @stop s o h hr =>
    have hn := (hfound s (.refl s)).mp h
    rw [(refill_fills hs (by omega) (by omega)).1] at hr
    cases hr
  | @more s t r h hr _ ih =>
    have hn := (hfound s (.refl s)).mp h
    have hn24 : s.nbits.toNat ≤ 24 := by omega
    obtain ⟨hval, hf⟩ := refill_fills hs hn24 (by omega)
    obtain ⟨-, rfl⟩ := Res.val.inj (hval.symm.trans hr)
    have hnb := nbits_refilled hn24
    obtain ⟨u, hu, hfu, hle, hlt⟩ := ih (hs.after hf.frame) (fun v hv => hfound v (hf.trans hv)) (by rw [hf.len]; exact hL) (by omega)
    exact ⟨u, hf.trans hu, hfu, hle, .inr (by omega)⟩

/-! ### Take -/

/-- `t` is `s` with the first `k` bits of its stream taken. -/
structure Taken (s : State) (k : Nat) (t : State) : Prop where
  frame : BitFrame s t
  le : k ≤ s.streamLen
  value : t.streamValue = s.streamValue / 2 ^ k
  len : t.streamLen = s.streamLen - k
  small : s.nbits.toNat ≤ 7 → t.nbits.toNat ≤ 7

theorem Fills.taken {s t : State} {n : Nat} (h : Fills s t) (hn : n ≤ t.nbits.toNat)
    (hmin : t.nbits.toNat = s.nbits.toNat ∨ t.nbits.toNat < n + 8) : Taken s n (t.consume n) := by
  refine ⟨h.frame.trans (bitFrame_consume hn), ?_, ?_, ?_, fun h7 => ?_⟩
  · rw [← h.len, State.streamLen]
    omega
  · rw [streamValue_consume hn, h.value]
  · rw [streamLen_consume hn, h.len]
  · rw [nbits_consume hn]
    omega

theorem Taken.trans {s t u : State} {k n : Nat} (h : Taken s k t) (h' : Taken t n u) : Taken s (k + n) u := by
  have hle := h.le
  have hlen := h.len
  have hle' := h'.le
  have hlen' := h'.len
  exact ⟨h.frame.trans h'.frame, by omega, by rw [h'.value, h.value, Nat.div_div_eq_div_mul, ← Nat.pow_add], by omega,
    fun h7 => h'.small (h.small h7)⟩

/-- `Take(n)` answers the next `n` bits of the stream (R133). -/
theorem take_stream {n : Nat} {s : State} (hs : Readable s) (hn : n ≤ s.streamLen) (h24 : n ≤ 25 ∨ n ≤ 32 ∧ s.nbits.toNat % 8 = 0) :
    ∃ v t, take n s = .val v t ∧ v.toNat = s.streamValue % 2 ^ n ∧ Taken s n t := by
  have hfound : FoundAt (takeFound n) s n := fun t _ => by
    unfold takeFound
    split
    next h => simp [h]
    next h => simp [h]
  obtain ⟨t, ht, hf, hle, hmin⟩ := (take_readsTo (by omega) s).fills hs hfound hn h24
  rw [takeFound, if_neg (Nat.not_lt.mpr hle)] at hf
  refine ⟨_, _, (Option.some.inj hf).symm, ?_, ht.taken hle hmin⟩
  rw [toNat_and_mask, bits_mod_eq hle, ht.value]

/-- Settles O37: the refills leave the stream as it was, and the consumption takes its first bits. -/
theorem takeReadsStream : Obligations.TakeReadsStream := by
  intro s n hacc hcur hsp hn h24
  obtain ⟨v, t, htake, hv, ht⟩ := take_stream ⟨hacc, hcur.1, hsp⟩ hn h24
  refine ⟨v, t, htake, hv, ht.value, ht.len, ht.frame.acc hacc, fun h7 => ⟨ht.small h7, ?_⟩, ht.frame.same⟩
  have hlen := ht.len
  have h7' := ht.small h7
  have hmoved := ht.frame.moved
  have hin := ht.frame.inside hcur.1
  have hord := hcur.1
  rw [State.streamLen, ht.frame.still.srcEnd] at hlen
  rw [State.streamLen] at hlen hn
  omega

end Sys2Proof.Machine
end
section
/-! PROOF. What a lookup answers in a built table (R153 to R162): the code its bits begin with, the shortest one there is, or INVALID
for one bit. The code of a table is complete, every pattern beginning with one of its codes, but for the two distance alphabets of
R155. -/

namespace Sys2Proof.Machine

/-! ### Reversed codes (R157) -/

theorem revBits_lt (L c : Nat) : revBits L c < 2 ^ L := by
  induction L generalizing c with
  | zero => exact Nat.one_pos
  | succ L ih =>
    have := ih (c / 2)
    have h2 : c % 2 * 2 ^ L ≤ 1 * 2 ^ L := Nat.mul_le_mul_right _ (by omega)
    rw [revBits, Nat.pow_succ]
    omega

/-- Only the low `L` bits are reversed. -/
theorem revBits_mod (L c : Nat) : revBits L (c % 2 ^ L) = revBits L c := by
  induction L generalizing c with
  | zero => rfl
  | succ L ih =>
    have hmod : c % 2 ^ (L + 1) % 2 = c % 2 := Nat.mod_mod_of_dvd _ (dvd_pow_self 2 (Nat.succ_ne_zero L))
    have hdiv : c % 2 ^ (L + 1) / 2 = c / 2 % 2 ^ L := by rw [Nat.pow_succ', Nat.mod_mul_right_div_self]
    rw [revBits, revBits, hmod, hdiv, ih]

/-- A longer code begins with its shorter ones. -/
theorem revBits_succ_div (L c : Nat) : revBits (L + 1) c / 2 = revBits L c := by
  induction L generalizing c with
  | zero =>
    simp only [revBits]
    omega
  | succ L ih =>
    show (c % 2 * 2 ^ (L + 1) + revBits (L + 1) (c / 2)) / 2 = c % 2 * 2 ^ L + revBits L (c / 2)
    rw [← ih (c / 2), Nat.pow_succ, ← Nat.mul_assoc]
    omega

theorem revBits_add_div (L k c : Nat) : revBits (L + k) c / 2 ^ k = revBits L c := by
  induction k with
  | zero => rw [Nat.pow_zero, Nat.div_one, Nat.add_zero]
  | succ k ih => rw [Nat.pow_succ', ← Nat.div_div_eq_div_mul, ← Nat.add_assoc, revBits_succ_div, ih]

/-- The last bit of a reversed code is the first of the code. -/
theorem revBits_succ_high (L c : Nat) : revBits (L + 1) c = 2 * revBits L c + c / 2 ^ L % 2 := by
  induction L generalizing c with
  | zero => simp [revBits]
  | succ L ih =>
    rw [revBits, ih (c / 2), revBits, Nat.div_div_eq_div_mul, ← Nat.pow_succ', Nat.pow_succ]
    ring

/-- Reversing twice gives the code back. -/
theorem revBits_revBits (L c : Nat) : revBits L (revBits L c) = c % 2 ^ L := by
  induction L generalizing c with
  | zero => rw [Nat.pow_zero, Nat.mod_one]; rfl
  | succ L ih =>
    have hdiv : (2 * revBits L c + c / 2 ^ L % 2) / 2 = revBits L c := by omega
    have hmod : (2 * revBits L c + c / 2 ^ L % 2) % 2 = c / 2 ^ L % 2 := by omega
    rw [revBits_succ_high L c, revBits, hdiv, hmod, ih, Nat.pow_succ, Nat.mod_mul]
    ring

/-! ### Codes -/

/-- As many codes of a length as there are symbols of it. -/
theorem length_symbolsOf (lens : List Nat) {L : Nat} (hL : L ≠ 0) : (symbolsOf lens L).length = codeCount lens L := by
  have hcount : ∀ (l : List Nat) (k : Nat), ((l.zipIdx k).filter (fun p => p.1 = L)).length = l.count L := by
    intro l
    induction l with
    | nil => exact fun _ => rfl
    | cons x l ih =>
      intro k
      by_cases hx : x = L <;> simp [List.zipIdx_cons, hx, ih]
  rw [symbolsOf, List.length_map, hcount, codeCount, if_neg hL]

/-- A symbol of a code is one of the alphabet. -/
theorem mem_symbolsOf_lt {lens : List Nat} {L s : Nat} (h : s ∈ symbolsOf lens L) : s < lens.length := by
  obtain ⟨p, hp, rfl⟩ := List.mem_map.mp h
  obtain ⟨x, k⟩ := p
  have := List.mem_zipIdx (List.mem_filter.mp hp).1
  omega

/-- The codes of one length are consecutive (R157). -/
theorem symbolOf_isSome {lens : List Nat} {L c : Nat} (hL : L ≠ 0) :
    (symbolOf? lens L c).isSome ↔ firstCode lens L ≤ c ∧ c < firstCode lens L + codeCount lens L := by
  unfold symbolOf?
  split
  next h =>
    rw [Option.isSome_iff_ne_none, ne_eq, List.getElem?_eq_none_iff, length_symbolsOf lens hL]
    omega
  next h => simp [h]

theorem symbolOf_lt {lens : List Nat} {L c s : Nat} (h : symbolOf? lens L c = some s) : s < lens.length := by
  unfold symbolOf? at h
  split at h
  · exact mem_symbolsOf_lt (List.mem_of_getElem? h)
  · cases h

/-- The symbol whose code of length `L` the bits `r` begin with. -/
def codeAt (lens : List Nat) (r L : Nat) : Option Nat := symbolOf? lens L (revBits L (r % 2 ^ L))

theorem codeAt_mod (lens : List Nat) (r : Nat) {L k : Nat} (h : L ≤ k) : codeAt lens (r % 2 ^ k) L = codeAt lens r L := by
  rw [codeAt, codeAt, Nat.mod_mod_of_dvd _ (Nat.pow_dvd_pow 2 h)]

theorem codeIn_cons (lens : List Nat) (r L : Nat) (Ls : List Nat) :
    codeIn lens r (L :: Ls) = ((codeAt lens r L).map (L, ·)).or (codeIn lens r Ls) := by
  rw [codeIn, codeAt]
  cases symbolOf? lens L (revBits L (r % 2 ^ L)) <;> rfl

theorem codeIn_append (lens : List Nat) (r : Nat) (Ls Ms : List Nat) :
    codeIn lens r (Ls ++ Ms) = (codeIn lens r Ls).or (codeIn lens r Ms) := by
  induction Ls with
  | nil => rfl
  | cons L Ls ih => rw [List.cons_append, codeIn_cons, codeIn_cons, ih, Option.or_assoc]

theorem codeIn_congr {lens : List Nat} {r r' : Nat} {Ls : List Nat} (h : ∀ L ∈ Ls, codeAt lens r L = codeAt lens r' L) :
    codeIn lens r Ls = codeIn lens r' Ls := by
  induction Ls with
  | nil => rfl
  | cons L Ls ih => rw [codeIn_cons, codeIn_cons, h L List.mem_cons_self, ih fun M hM => h M (List.mem_cons_of_mem _ hM)]

theorem codeIn_eq_none {lens : List Nat} {r : Nat} {Ls : List Nat} :
    codeIn lens r Ls = none ↔ ∀ L ∈ Ls, codeAt lens r L = none := by
  induction Ls with
  | nil => simp [codeIn]
  | cons L Ls ih => simp [codeIn_cons, ih]

theorem codeIn_some {lens : List Nat} {r L s : Nat} {Ls : List Nat} (h : codeIn lens r Ls = some (L, s)) :
    L ∈ Ls ∧ codeAt lens r L = some s := by
  induction Ls with
  | nil => cases h
  | cons M Ls ih =>
    rw [codeIn_cons] at h
    cases hM : codeAt lens r M with
    | some s' =>
      rw [hM] at h
      cases h
      exact ⟨List.mem_cons_self, hM⟩
    | none =>
      rw [hM] at h
      obtain ⟨h1, h2⟩ := ih h
      exact ⟨List.mem_cons_of_mem _ h1, h2⟩

/-- The shortest code the bits begin with depends on its own bits alone. -/
theorem codeIn_prefix {lens : List Nat} {r r' L s : Nat} {Ls : List Nat} (hsort : Ls.Pairwise (· < ·))
    (h : codeIn lens r Ls = some (L, s)) (hr : r' % 2 ^ L = r % 2 ^ L) : codeIn lens r' Ls = some (L, s) := by
  have hat : ∀ M ≤ L, codeAt lens r' M = codeAt lens r M := fun M hM => by
    rw [← codeAt_mod lens r' hM, hr, codeAt_mod lens r hM]
  induction Ls with
  | nil => cases h
  | cons M Ls ih =>
    obtain ⟨hM, hsort'⟩ := List.pairwise_cons.mp hsort
    rw [codeIn_cons] at h ⊢
    cases hc : codeAt lens r M with
    | some s' =>
      rw [hc] at h
      cases h
      rw [hat _ (Nat.le_refl _), hc]
      rfl
    | none =>
      rw [hc] at h
      have hmem := (codeIn_some (show codeIn lens r Ls = some (L, s) from h)).1
      rw [hat M (hM L hmem).le, hc]
      exact ih hsort' h

/-! ### Complete codes (R154) -/

/-- R154's loop keeps the account of the codes given and those left. -/
theorem kraftLoop_account {lens : List Nat} {n L left r : Nat} (h : kraftLoop lens (List.range' (L + 1) n) left = some r)
    (hleft : firstCode lens L + codeCount lens L + left = 2 ^ L) :
    firstCode lens (L + n) + codeCount lens (L + n) + r = 2 ^ (L + n) := by
  induction n generalizing L left with
  | zero =>
    cases h
    exact hleft
  | succ n ih =>
    rw [List.range'_succ, kraftLoop] at h
    split at h
    · cases h
    · have := ih h (by rw [firstCode, Nat.pow_succ]; omega)
      rwa [Nat.add_right_comm L 1 n] at this

/-- In a complete code every 15 bits begin with a code. -/
theorem exists_code_of_complete {lens : List Nat} (h : firstCode lens 15 + codeCount lens 15 = 2 ^ 15) {v : Nat} (hv : v < 2 ^ 15) :
    ∃ L, 1 ≤ L ∧ L ≤ 15 ∧ firstCode lens L ≤ v / 2 ^ (15 - L) ∧ v / 2 ^ (15 - L) < firstCode lens L + codeCount lens L := by
  have hreach : ∀ n, n ≤ 15 → v / 2 ^ (15 - n) < firstCode lens n + codeCount lens n →
      ∃ L, 1 ≤ L ∧ L ≤ n ∧ firstCode lens L ≤ v / 2 ^ (15 - L) ∧ v / 2 ^ (15 - L) < firstCode lens L + codeCount lens L := by
    intro n
    induction n with
    | zero => exact fun _ h0 => absurd h0 (Nat.not_lt_zero _)
    | succ n ih =>
      intro hn hlt
      by_cases hprev : v / 2 ^ (15 - n) < firstCode lens n + codeCount lens n
      · obtain ⟨L, h1, h2, h3⟩ := ih (by omega) hprev
        exact ⟨L, h1, by omega, h3⟩
      · have hpow : v / 2 ^ (15 - n) = v / 2 ^ (15 - (n + 1)) / 2 := by
          rw [Nat.div_div_eq_div_mul, ← pow_succ, show 15 - (n + 1) + 1 = 15 - n by omega]
        refine ⟨n + 1, by omega, Nat.le_refl _, ?_, hlt⟩
        rw [firstCode]
        omega
  exact hreach 15 (Nat.le_refl _) (by simpa [h] using hv)

/-- Every pattern of bits begins with a code. -/
def CompleteCode (lens : List Nat) : Prop := ∀ r, codeIn lens r (shortLengths ++ longLengths) ≠ none

theorem lengths_eq : shortLengths ++ longLengths = List.range' 1 15 := rfl

theorem completeCode_of_account {lens : List Nat} (h : firstCode lens 15 + codeCount lens 15 = 2 ^ 15) : CompleteCode lens := by
  intro r hnone
  obtain ⟨L, h1, h15, hle, hlt⟩ := exists_code_of_complete h (revBits_lt 15 r)
  have hrev : revBits 15 r / 2 ^ (15 - L) = revBits L (r % 2 ^ L) := by
    rw [revBits_mod, ← revBits_add_div L (15 - L) r, show L + (15 - L) = 15 by omega]
  rw [hrev] at hle hlt
  have hmem : L ∈ shortLengths ++ longLengths := by
    rw [lengths_eq, List.mem_range'_1]
    omega
  have hsome := (symbolOf_isSome (lens := lens) (by omega)).mpr ⟨hle, hlt⟩
  rw [show symbolOf? lens L (revBits L (r % 2 ^ L)) = none from codeIn_eq_none.mp hnone L hmem] at hsome
  cases hsome

/-- No code is longer than one bit: the alphabets of R155. -/
def OneBitCode (lens : List Nat) : Prop := ∀ L, 2 ≤ L → L ≤ 15 → codeCount lens L = 0

theorem oneBitCode_of_used {lens : List Nat} (h : usedLengths lens = [1] ∨ usedLengths lens = []) : OneBitCode lens := by
  intro L h2 h15
  by_contra hc
  have hmem : L ∈ usedLengths lens := by
    rw [usedLengths, List.mem_filter, lengths_eq, List.mem_range'_1]
    exact ⟨by omega, decide_eq_true hc⟩
  rcases h with h | h <;> rw [h] at hmem
  · have := List.mem_singleton.mp hmem
    omega
  · cases hmem

theorem codeAt_of_oneBit {lens : List Nat} (h : OneBitCode lens) (r : Nat) {L : Nat} (h2 : 2 ≤ L) (h15 : L ≤ 15) :
    codeAt lens r L = none := by
  rw [codeAt, ← Option.not_isSome_iff_eq_none, symbolOf_isSome (by omega), h L h2 h15]
  omega

/-- What a build has checked (R152, R154, R155, R165). -/
theorem build_checked {p : Params} {A : Alphabet} {lens : List Nat} {t : Table} (h : build p A lens = .ok t) :
    (CompleteCode lens ∨ OneBitCode lens) ∧ (subTables lens).2 ≤ 1024 := by
  unfold build at h
  cases hk : kraftLoop lens (shortLengths ++ longLengths) 1 with
  | none => rw [hk] at h; cases h
  | some left =>
    rw [hk] at h
    dsimp only at h
    split at h
    · cases h
    next hunder =>
    split at h
    · cases h
    split at h
    · cases h
    next harena =>
    refine ⟨?_, Nat.not_lt.mp harena⟩
    have hacc := kraftLoop_account (L := 0) (n := 15) hk rfl
    by_cases h0 : left = 0
    · exact .inl (completeCode_of_account (by simpa [h0] using hacc))
    · have hacc : acceptsUnder p A lens = true := by simpa [h0] using hunder
      simp only [acceptsUnder, Bool.and_eq_true, Bool.or_eq_true, decide_eq_true_eq] at hacc
      obtain ⟨-, ⟨-, hu⟩ | ⟨hu, -⟩⟩ := hacc
      · exact .inr (oneBitCode_of_used (.inl hu))
      · exact .inr (oneBitCode_of_used (.inr hu))

end Sys2Proof.Machine
end
section
/-! PROOF. The layout of the sub-tables (R159), and the lookup in a built table (R162): the entry of the code its bits begin with. -/

namespace Sys2Proof.Machine

/-! ### The layout (R159) -/

/-- Two sub-tables share no arena index. -/
def SubTable.Apart (t u : SubTable) : Prop := t.off + 2 ^ t.width ≤ u.off ∨ u.off + 2 ^ u.width ≤ t.off

theorem SubTable.apart_symm : Std.Symm SubTable.Apart := ⟨fun _ _ => Or.symm⟩

/-- The sub-tables laid out so far lie apart, between the primary table and the next index, each as wide as its longest code. -/
structure LaidOut (codes : List (Nat × Nat)) (subs : List SubTable) (next : Nat) : Prop where
  start : 512 ≤ next
  inside : ∀ t ∈ subs, 512 ≤ t.off ∧ t.off + 2 ^ t.width ≤ next
  width : ∀ t ∈ subs, t.width = rootWidth codes t.root
  apart : subs.Pairwise SubTable.Apart

theorem LaidOut.append {codes : List (Nat × Nat)} {subs : List SubTable} {next : Nat} (h : LaidOut codes subs next) (root : Nat) :
    LaidOut codes (subs ++ [{ root := root, off := next, width := rootWidth codes root }]) (next + 2 ^ rootWidth codes root) := by
  have hmem {t : SubTable} (ht : t ∈ subs ++ [{ root := root, off := next, width := rootWidth codes root }]) :
      t ∈ subs ∨ t = { root := root, off := next, width := rootWidth codes root } := by simpa using ht
  refine ⟨h.start.trans (Nat.le_add_right _ _), fun t ht => ?_, fun t ht => ?_, ?_⟩
  · rcases hmem ht with ht | rfl
    · obtain ⟨h1, h2⟩ := h.inside t ht
      exact ⟨h1, h2.trans (Nat.le_add_right _ _)⟩
    · exact ⟨h.start, Nat.le_refl _⟩
  · rcases hmem ht with ht | rfl
    · exact h.width t ht
    · rfl
  · refine List.pairwise_append.mpr ⟨h.apart, List.pairwise_singleton _ _, fun t ht u hu => ?_⟩
    obtain rfl := List.mem_singleton.mp hu
    exact .inl (h.inside t ht).2

/-- The layout gives every root a sub-table. -/
theorem layoutFrom_laidOut (codes ps : List (Nat × Nat)) {subs : List SubTable} {next : Nat} (h : LaidOut codes subs next) :
    LaidOut codes (layoutFrom codes ps subs next).1 (layoutFrom codes ps subs next).2 ∧
    (∀ t ∈ subs, t ∈ (layoutFrom codes ps subs next).1) ∧
    ∀ p ∈ ps, ∃ t ∈ (layoutFrom codes ps subs next).1, t.root = p.2 % 512 := by
  induction ps generalizing subs next with
  | nil => exact ⟨h, fun _ => id, by simp⟩
  | cons p ps ih =>
    rw [layoutFrom]
    split
    next hany =>
      obtain ⟨h1, h2, h3⟩ := ih h
      refine ⟨h1, h2, List.forall_mem_cons.mpr ⟨?_, h3⟩⟩
      obtain ⟨t, ht, hroot⟩ := List.any_eq_true.mp hany
      exact ⟨t, h2 t ht, of_decide_eq_true hroot⟩
    next =>
      obtain ⟨h1, h2, h3⟩ := ih (h.append (p.2 % 512))
      refine ⟨h1, fun t ht => h2 t (List.mem_append_left _ ht), List.forall_mem_cons.mpr ⟨?_, h3⟩⟩
      exact ⟨_, h2 _ (List.mem_append_right _ List.mem_cons_self), rfl⟩

theorem subTables_laidOut (lens : List Nat) :
    LaidOut (longCodes lens) (subTables lens).1 (subTables lens).2 ∧
    ∀ p ∈ longCodes lens, ∃ t ∈ (subTables lens).1, t.root = p.2 % 512 := by
  obtain ⟨h1, -, h3⟩ := layoutFrom_laidOut (longCodes lens) (longCodes lens) (subs := []) (next := 512)
    ⟨Nat.le_refl _, by simp, by simp, List.Pairwise.nil⟩
  exact ⟨h1, h3⟩

/-- A sub-table is found again from any of its arena indices. -/
theorem LaidOut.find_index {codes : List (Nat × Nat)} {subs : List SubTable} {next : Nat} (h : LaidOut codes subs next)
    {t : SubTable} (ht : t ∈ subs) {j : Nat} (h1 : t.off ≤ j) (h2 : j < t.off + 2 ^ t.width) :
    subs.find? (fun u => u.off ≤ j && j < u.off + 2 ^ u.width) = some t := by
  cases hf : subs.find? (fun u => u.off ≤ j && j < u.off + 2 ^ u.width) with
  | none =>
    have := List.find?_eq_none.mp hf t ht
    simp [h1, h2] at this
  | some u =>
    have hu := List.find?_some hf
    simp only [Bool.and_eq_true, decide_eq_true_eq] at hu
    by_contra hne
    have hne' : u ≠ t := fun he => hne (congrArg some he)
    have := SubTable.apart_symm
    rcases h.apart.forall (List.mem_of_find?_eq_some hf) ht hne' with ha | ha <;> omega

/-- One code's part in the width of a root. -/
def widen (root w : Nat) (p : Nat × Nat) : Nat := if p.2 % 512 = root then max w (p.1 - 9) else w

theorem rootWidth_eq (codes : List (Nat × Nat)) (root : Nat) : rootWidth codes root = codes.foldl (widen root) 0 := rfl

theorem le_widen (root w : Nat) (p : Nat × Nat) : w ≤ widen root w p := by
  unfold widen
  split
  · exact Nat.le_max_left _ _
  · exact Nat.le_refl w

theorem le_foldl_widen (root : Nat) (l : List (Nat × Nat)) (w : Nat) : w ≤ l.foldl (widen root) w := by
  induction l generalizing w with
  | nil => exact Nat.le_refl w
  | cons q l ih => exact (le_widen root w q).trans (ih _)

/-- A root's width admits each of its codes. -/
theorem le_rootWidth {codes : List (Nat × Nat)} {p : Nat × Nat} (hp : p ∈ codes) : p.1 - 9 ≤ rootWidth codes (p.2 % 512) := by
  rw [rootWidth_eq]
  generalize 0 = w
  induction codes generalizing w with
  | nil => cases hp
  | cons q l ih =>
    rcases List.mem_cons.mp hp with rfl | hp
    · refine le_trans ?_ (le_foldl_widen _ l _)
      rw [widen, if_pos rfl]
      exact Nat.le_max_right _ _
    · exact ih hp _

/-- A long code that bits begin with is in the list, reversed as in the bits. -/
theorem mem_longCodes {lens : List Nat} {r L : Nat} (hL : L ∈ longLengths) (h : codeAt lens r L ≠ none) :
    (L, r % 2 ^ L) ∈ longCodes lens := by
  have hL0 : L ≠ 0 := by
    rintro rfl
    exact absurd hL (by decide)
  obtain ⟨h1, h2⟩ := (symbolOf_isSome hL0).mp (Option.isSome_iff_ne_none.mpr h)
  refine List.mem_flatMap.mpr ⟨L, hL, List.mem_map.mpr ⟨revBits L (r % 2 ^ L) - firstCode lens L, List.mem_range.mpr (by omega), ?_⟩⟩
  rw [Nat.add_sub_cancel' h1, revBits_revBits, Nat.mod_mod]

/-! ### Entries -/

theorem lenExtra_lt (j : Nat) : lenBase.getD j 0 < 512 ∧ lenExtra.getD j 0 < 8 := by
  by_cases hj : j < 29
  · have h : ∀ j < 29, lenBase.getD j 0 < 512 ∧ lenExtra.getD j 0 < 8 := by decide
    exact h j hj
  · rw [List.getD_eq_default _ _ (Nat.not_lt.mp hj), List.getD_eq_default _ _ (Nat.not_lt.mp hj)]
    decide

theorem distExtra_lt (j : Nat) : distBase.getD j 0 < 2 ^ 15 ∧ distExtra.getD j 0 < 16 := by
  by_cases hj : j < 30
  · have h : ∀ j < 30, distBase.getD j 0 < 2 ^ 15 ∧ distExtra.getD j 0 < 16 := by decide
    exact h j hj
  · rw [List.getD_eq_default _ _ (Nat.not_lt.mp hj), List.getD_eq_default _ _ (Nat.not_lt.mp hj)]
    decide

/-- A symbol's entry is of one of four kinds, and its fields fit (R156). -/
theorem makeEntry_packed (A : Alphabet) {s : Nat} (hs : s < 288) (nb : Nat) :
    ∃ kind payload nx, makeEntry A s nb = packEntry kind payload nx nb ∧ payload < 65536 ∧ nx < 16 ∧
      (kind = 0x80 ∨ kind = 0x40 ∨ kind = 0x20 ∨ kind = 0x08) := by
  have hl := lenExtra_lt (s - 257)
  have hd := distExtra_lt s
  cases A with
  | cl => exact ⟨_, _, _, rfl, by omega, by omega, by omega⟩
  | ll =>
    unfold makeEntry
    dsimp only
    split
    · exact ⟨_, _, _, rfl, by omega, by omega, by omega⟩
    split
    · exact ⟨_, _, _, rfl, by omega, by omega, by omega⟩
    split
    · exact ⟨_, _, _, rfl, by omega, by omega, by omega⟩
    · exact ⟨_, _, _, rfl, by omega, by omega, by omega⟩
  | d =>
    unfold makeEntry
    dsimp only
    split
    · exact ⟨_, _, _, rfl, by omega, by omega, by omega⟩
    · exact ⟨_, _, _, rfl, by omega, by omega, by omega⟩

/-- The kind a kind byte stands for (R150). -/
def kindOfByte : Nat → Kind
  | 0x80 => .lit
  | 0x40 => .base
  | 0x20 => .eob
  | 0x10 => .redir
  | 0x08 => .invalid
  | 0x00 => .empty
  | _ => .other

theorem entryKind_eq (e : Entry) : entryKind e = kindOfByte (e.extractLsb' 24 8).toNat := rfl

theorem entryKind_pack {kind payload nx nb : Nat} (hk : kind < 256) (hp : payload < 65536) (hx : nx < 16) (hb : nb < 16) :
    entryKind (packEntry kind payload nx nb) = kindOfByte kind := by
  rw [entryKind_eq, kind_byte_pack hk hp hx hb]

theorem makeEntry_spec (A : Alphabet) {s nb : Nat} (hs : s < 288) (hb : nb < 16) :
    (entryNB (makeEntry A s nb)).toNat = nb ∧ entryKind (makeEntry A s nb) ≠ .redir ∧ entryKind (makeEntry A s nb) ≠ .empty := by
  obtain ⟨kind, payload, nx, he, hp, hx, hk⟩ := makeEntry_packed A hs nb
  rw [he]
  refine ⟨entryNB_pack hb, ?_⟩
  rcases hk with rfl | rfl | rfl | rfl <;> rw [entryKind_pack (by decide) hp hx hb] <;> decide

/-! ### The lookup (R162) -/

/-- What a lookup answers for the code that bits begin with: the symbol's entry and the code's length, or INVALID for one bit
where there is none (R160). -/
def codeAnswer (A : Alphabet) : Option (Nat × Nat) → Entry × Nat
  | some (L, s) => (makeEntry A s (if L ≤ 9 then L else L - 9), L)
  | none => (packEntry 0x08 0 0 1, 1)

theorem codeIn_mod (lens : List Nat) (r : Nat) {k : Nat} {Ls : List Nat} (h : ∀ L ∈ Ls, L ≤ k) :
    codeIn lens (r % 2 ^ k) Ls = codeIn lens r Ls := codeIn_congr fun L hL => codeAt_mod lens r (h L hL)

theorem codeIn_primary (lens : List Nat) (r : Nat) : codeIn lens (r % 512) shortLengths = codeIn lens r shortLengths :=
  codeIn_mod lens r (k := 9) (by decide)

theorem lookup_of_primary {t : Table} {w : Acc} (h : entryKind (readTable t (w.toNat % 512)) ≠ .redir) :
    lookup t w = (readTable t (w.toNat % 512), (entryNB (readTable t (w.toNat % 512))).toNat) := by
  rw [lookup]
  exact if_neg h

theorem lookup_of_redir {t : Table} {w : Acc} (h : entryKind (readTable t (w.toNat % 512)) = .redir) {j : Nat}
    (hj : j = (entryPayload (readTable t (w.toNat % 512))).toNat +
      w.toNat / 512 % 2 ^ (entryNX (readTable t (w.toNat % 512))).toNat) :
    lookup t w = (readTable t j, 9 + (entryNB (readTable t j)).toNat) := by
  rw [lookup, hj]
  exact if_pos h

/-- A slot of the primary table where a short code ends (R158). -/
theorem lookup_short {A : Alphabet} {lens : List Nat} (hlen : lens.length ≤ 288) {w : Acc} {L s : Nat}
    (h : codeIn lens w.toNat shortLengths = some (L, s)) : lookup (tableOf A lens) w = codeAnswer A (some (L, s)) := by
  obtain ⟨hL, hs⟩ := codeIn_some h
  have hL9 : L ≤ 9 ∧ 1 ≤ L := by
    have : ∀ L ∈ shortLengths, L ≤ 9 ∧ 1 ≤ L := by decide
    exact this L hL
  have hi : w.toNat % 512 < 512 := Nat.mod_lt _ (by decide)
  have hcode : codeIn lens (w.toNat % 512) shortLengths = some (L, s) := by
    rw [← h]
    exact codeIn_primary lens w.toNat
  have he : readTable (tableOf A lens) (w.toNat % 512) = makeEntry A s L := by
    rw [readTable_tableOf A lens (by omega), slotEntry, if_pos hi, primaryEntry, hcode]
  obtain ⟨hnb, hk, -⟩ := makeEntry_spec A ((symbolOf_lt hs).trans_le hlen) (show L < 16 by omega)
  rw [lookup_of_primary (by rw [he]; exact hk), he, hnb, codeAnswer, if_pos hL9.1]

/-- A root with the index bits of its sub-table is as much of the bits as its codes need. -/
theorem codeIn_mod_root {lens : List Nat} {t : SubTable} (hwidth : t.width = rootWidth (longCodes lens) t.root) {r : Nat}
    (hroot : t.root = r % 512) : codeIn lens (r % 2 ^ (9 + t.width)) longLengths = codeIn lens r longLengths := by
  refine codeIn_congr fun M hM => ?_
  have hM9 : 9 ≤ M := by
    have : ∀ M ∈ longLengths, 9 ≤ M := by decide
    exact this M hM
  have hnone {v : Nat} (hv : v % 512 = t.root) (hlt : 9 + t.width < M) : codeAt lens v M = none := by
    by_contra hne
    have := le_rootWidth (mem_longCodes hM hne)
    rw [Nat.mod_mod_of_dvd _ (Nat.pow_dvd_pow 2 hM9), hv, ← hwidth] at this
    omega
  rcases Nat.lt_or_ge (9 + t.width) M with hlt | hge
  · rw [hnone hroot.symm hlt, hnone (by rw [Nat.mod_mod_of_dvd _ (Nat.pow_dvd_pow 2 (Nat.le_add_right 9 _)), hroot]) hlt]
  · exact codeAt_mod lens r hge

/-- A slot of the primary table whose root has a sub-table (R159). -/
theorem lookup_long {A : Alphabet} {lens : List Nat} (hlen : lens.length ≤ 288) (harena : (subTables lens).2 ≤ 1024) {w : Acc}
    {L s : Nat} (hshort : codeIn lens w.toNat shortLengths = none) (h : codeIn lens w.toNat longLengths = some (L, s)) :
    lookup (tableOf A lens) w = codeAnswer A (some (L, s)) := by
  obtain ⟨hlaid, hroots⟩ := subTables_laidOut lens
  obtain ⟨hL, hs⟩ := codeIn_some h
  have hLr : 10 ≤ L ∧ L ≤ 15 := by
    have : ∀ L ∈ longLengths, 10 ≤ L ∧ L ≤ 15 := by decide
    exact this L hL
  obtain ⟨t0, ht0, hroot0⟩ := hroots _ (mem_longCodes hL (by rw [hs]; exact Option.some_ne_none s))
  have hmod : w.toNat % 2 ^ L % 512 = w.toNat % 512 := Nat.mod_mod_of_dvd _ (Nat.pow_dvd_pow 2 (show 9 ≤ L by omega))
  obtain ⟨t, hfind⟩ : ∃ t, (subTables lens).1.find? (fun t => t.root = w.toNat % 512) = some t := by
    rw [← Option.isSome_iff_exists, List.find?_isSome]
    exact ⟨t0, ht0, decide_eq_true (hroot0.trans hmod)⟩
  have ht := List.mem_of_find?_eq_some hfind
  have hroot : t.root = w.toNat % 512 := by simpa using List.find?_some hfind
  obtain ⟨hoff, hend⟩ := hlaid.inside t ht
  have hwidth : t.width < 16 := by
    by_contra hge
    have := Nat.pow_le_pow_right (n := 2) (by decide) (Nat.not_lt.mp hge)
    omega
  have hpos := Nat.two_pow_pos t.width
  have hi : w.toNat % 512 < 512 := Nat.mod_lt _ (by decide)
  have he : readTable (tableOf A lens) (w.toNat % 512) = packEntry 0x10 t.off t.width 9 := by
    rw [readTable_tableOf A lens (by omega), slotEntry, if_pos hi, primaryEntry, codeIn_primary, hshort]
    dsimp only
    rw [hfind]
  have hfound : subEntry A lens (subTables lens).1 (t.off + w.toNat / 512 % 2 ^ t.width) = makeEntry A s (L - 9) := by
    rw [subEntry, hlaid.find_index ht (Nat.le_add_right _ _) (Nat.add_lt_add_left (Nat.mod_lt _ hpos) _)]
    dsimp only
    rw [Nat.add_sub_cancel_left, hroot, ← Nat.mod_mul, show 512 * 2 ^ t.width = 2 ^ (9 + t.width) by rw [Nat.pow_add],
      codeIn_mod_root (hlaid.width t ht) hroot, h]
  have hj : t.off + w.toNat / 512 % 2 ^ t.width < t.off + 2 ^ t.width := Nat.add_lt_add_left (Nat.mod_lt _ hpos) _
  have he2 : readTable (tableOf A lens) (t.off + w.toNat / 512 % 2 ^ t.width) = makeEntry A s (L - 9) := by
    rw [readTable_tableOf A lens (by omega), slotEntry, if_neg (by omega), hfound]
  have hredir : entryKind (readTable (tableOf A lens) (w.toNat % 512)) = .redir := by
    rw [he, entryKind_pack (by decide) (by omega) hwidth (by decide)]
    rfl
  rw [lookup_of_redir hredir (j := t.off + w.toNat / 512 % 2 ^ t.width) (by
      rw [he, entryPayload_pack (by decide) (by omega) hwidth (by decide), entryNX_pack (by decide) (by omega) hwidth (by decide)]),
    he2, (makeEntry_spec A ((symbolOf_lt hs).trans_le hlen) (show L - 9 < 16 by omega)).1, codeAnswer, if_neg (by omega),
    Nat.add_sub_cancel' (by omega)]

/-- A slot where no code ends is INVALID, with one bit (R160), where there are no codes longer than one bit. -/
theorem lookup_none {A : Alphabet} {lens : List Nat} (hone : OneBitCode lens) {w : Acc}
    (h : codeIn lens w.toNat shortLengths = none) : lookup (tableOf A lens) w = codeAnswer A none := by
  have hlong : longCodes lens = [] := by
    refine List.flatMap_eq_nil_iff.mpr fun L hL => ?_
    have hLr : ∀ L ∈ longLengths, 2 ≤ L ∧ L ≤ 15 := by decide
    rw [hone L (hLr L hL).1 (hLr L hL).2]
    rfl
  have hsubs : (subTables lens).1 = [] := by
    rw [subTables, hlong]
    rfl
  have hi : w.toNat % 512 < 512 := Nat.mod_lt _ (by decide)
  have he : readTable (tableOf A lens) (w.toNat % 512) = packEntry 0x08 0 0 1 := by
    rw [readTable_tableOf A lens (by omega), slotEntry, if_pos hi, primaryEntry, codeIn_primary, h, hsubs]
    rfl
  rw [lookup_of_primary (by rw [he]; decide), he]
  rfl

/-- R162: a lookup in a built table answers the code the bits begin with. -/
theorem lookup_of_built {p : Params} {A : Alphabet} {lens : List Nat} {t : Table} (h : BuiltFrom p A lens t) (w : Acc) :
    lookup t w = codeAnswer A (codeIn lens w.toNat (shortLengths ++ longLengths)) := by
  obtain ⟨⟨hlen, -⟩, hb⟩ := h
  obtain ⟨hcode, harena⟩ := build_checked hb
  rw [eq_tableOf_of_build hb, codeIn_append]
  cases hshort : codeIn lens w.toNat shortLengths with
  | some p =>
    obtain ⟨L, s⟩ := p
    exact lookup_short hlen hshort
  | none =>
    cases hl : codeIn lens w.toNat longLengths with
    | some p =>
      obtain ⟨L, s⟩ := p
      exact lookup_long hlen harena hshort hl
    | none =>
      refine lookup_none (hcode.resolve_left fun hc => hc w.toNat ?_) hshort
      rw [codeIn_append, hshort, hl]
      rfl

/-! ### Reading bit by bit -/

/-- Every pattern of bits has an entry, which the bits it needs decide, at most 15 of them. -/
structure SelfDelimiting (t : Table) : Prop where
  total : ∀ w, entryKind (lookup t w).1 ≠ .empty
  short : ∀ w, (lookup t w).2 ≤ 15
  pref : ∀ w w' : Acc, w'.toNat % 2 ^ (lookup t w).2 = w.toNat % 2 ^ (lookup t w).2 → lookup t w' = lookup t w

/-- Where no pattern but of one bit is a code, one bit decides that there is none. -/
theorem codeIn_none_of_bit {lens : List Nat} (hcode : CompleteCode lens ∨ OneBitCode lens) {r r' : Nat}
    (h : codeIn lens r (shortLengths ++ longLengths) = none) (hr : r' % 2 = r % 2) :
    codeIn lens r' (shortLengths ++ longLengths) = none := by
  have hone := hcode.resolve_left fun hc => hc r h
  rw [codeIn_eq_none] at h ⊢
  intro L hL
  obtain ⟨h1, h15⟩ : 1 ≤ L ∧ L ≤ 15 := by
    rw [lengths_eq, List.mem_range'_1] at hL
    omega
  rcases Nat.lt_or_ge L 2 with h2 | h2
  · obtain rfl : L = 1 := by omega
    rw [← codeAt_mod lens r' (Nat.le_refl 1), Nat.pow_one, hr, ← h 1 hL, ← codeAt_mod lens r (Nat.le_refl 1), Nat.pow_one]
  · exact codeAt_of_oneBit hone r' h2 h15

/-- R166, R167: a built table is self-delimiting. -/
theorem selfDelimiting_of_built {p : Params} {A : Alphabet} {lens : List Nat} {t : Table} (h : BuiltFrom p A lens t) :
    SelfDelimiting t := by
  have hlook := lookup_of_built h
  obtain ⟨⟨hlen, -⟩, hb⟩ := h
  obtain ⟨hcode, -⟩ := build_checked hb
  have hfound {w : Acc} {L s : Nat} (hc : codeIn lens w.toNat (shortLengths ++ longLengths) = some (L, s)) : L ≤ 15 ∧ s < 288 := by
    obtain ⟨hL, hs⟩ := codeIn_some hc
    rw [lengths_eq, List.mem_range'_1] at hL
    exact ⟨by omega, (symbolOf_lt hs).trans_le hlen⟩
  refine ⟨fun w => ?_, fun w => ?_, fun w w' hw => ?_⟩
  · rw [hlook w]
    cases hc : codeIn lens w.toNat (shortLengths ++ longLengths) with
    | none =>
      rw [codeAnswer]
      decide
    | some p =>
      obtain ⟨h15, hs⟩ := hfound hc
      obtain ⟨-, -, hne⟩ := makeEntry_spec A hs (nb := if p.1 ≤ 9 then p.1 else p.1 - 9) (by split <;> omega)
      exact hne
  · rw [hlook w]
    cases hc : codeIn lens w.toNat (shortLengths ++ longLengths) with
    | none => exact Nat.one_le_ofNat
    | some p => exact (hfound hc).1
  · rw [hlook w] at hw
    rw [hlook w', hlook w]
    cases hc : codeIn lens w.toNat (shortLengths ++ longLengths) with
    | none =>
      rw [hc] at hw
      rw [codeIn_none_of_bit hcode hc (by simpa [codeAnswer] using hw)]
    | some p =>
      obtain ⟨L, s⟩ := p
      rw [hc] at hw
      rw [codeIn_prefix (by rw [lengths_eq]; exact List.pairwise_lt_range') hc hw]

end Sys2Proof.Machine
end
section
/-! PROOF. A pass runs the element its stream begins with (R90, R108, R163): the bits `decode` takes are the bits the pass reads, through
its refills, and the instruction `decode` finds has the effect of the pass behind them. -/

namespace Sys2Proof.Machine

/-! ### Reads of held bits -/

theorem consume_zero (s : State) : s.consume 0 = s := by
  have hb : s.bits >>> 0 = s.bits := by simp
  have hn : s.nbits - BitVec.ofNat 6 0 = s.nbits := by simp
  rw [State.consume, hb, hn]

theorem consume_consume (s : State) (a b : Nat) : (s.consume a).consume b = s.consume (a + b) := by
  have hb : s.bits >>> a >>> b = s.bits >>> (a + b) := (BitVec.shiftRight_add s.bits a b).symm
  have hn : s.nbits - BitVec.ofNat 6 a - BitVec.ofNat 6 b = s.nbits - BitVec.ofNat 6 (a + b) := by
    rw [BitVec.ofNat_add]
    abel
  rw [State.consume, State.consume, State.consume, hb, hn]

/-- Held bits are taken as they are. -/
theorem take_held {n : Nat} (hn : n ≤ 32) {s : State} (h : n ≤ s.nbits.toNat) :
    ∃ v, take n s = .val v (s.consume n) ∧ v.toNat = s.bits.toNat % 2 ^ n :=
  ⟨_, (take_readsTo hn s).unique (.done (if_neg (Nat.not_lt.mpr h))), toNat_and_mask _ _⟩

theorem eq_of_take_zero {s t : State} {v : Acc} (h : take 0 s = .val v t) : t = s := by
  obtain ⟨w, hw, -⟩ := take_held (n := 0) (by decide) (s := s) (Nat.zero_le _)
  rw [hw, consume_zero] at h
  exact (Res.val.inj h).2.symm

/-- A symbol whose code is held is decoded as it is (R163). -/
theorem decodeSym_held {tab : Table} {s : State} (hk : entryKind (lookup tab s.bits).1 ≠ .empty)
    (h : (lookup tab s.bits).2 ≤ s.nbits.toNat) :
    decodeSym tab s = .val ⟨(lookup tab s.bits).1, (lookup tab s.bits).2, s.bits.toNat % 2 ^ (lookup tab s.bits).2⟩
      (s.consume (lookup tab s.bits).2) :=
  (decodeSym_readsTo tab s).unique (.done (by rw [symFound, if_neg hk, if_pos h]))

/-! ### A symbol in the stream -/

theorem ofNat_mod_pow {n L : Nat} (hL : L ≤ 32) : (BitVec.ofNat 32 n).toNat % 2 ^ L = n % 2 ^ L := by
  rw [BitVec.toNat_ofNat, Nat.mod_mod_of_dvd _ (Nat.pow_dvd_pow 2 hL)]

/-- `DecodeSym` answers the symbol whose code the stream begins with (R162, R163). -/
theorem decodeSym_stream {tab : Table} (htab : SelfDelimiting tab) {s : State} (hs : Readable s) {w : Acc}
    (hw : w = BitVec.ofNat 32 s.streamValue) (hL : (lookup tab w).2 ≤ s.streamLen) :
    ∃ t, decodeSym tab s = .val ⟨(lookup tab w).1, (lookup tab w).2, w.toNat % 2 ^ (lookup tab w).2⟩ t ∧
      Taken s (lookup tab w).2 t := by
  have hsame {t : State} (ht : Fills s t) {L : Nat} (h15 : L ≤ 15) (hn : L ≤ t.nbits.toNat) :
      t.bits.toNat % 2 ^ L = w.toNat % 2 ^ L := by
    rw [bits_mod_eq hn, ht.value, hw, ofNat_mod_pow (by omega)]
  have hfound : FoundAt (symFound tab) s (lookup tab w).2 := fun t ht => by
    rw [symFound, if_neg (htab.total _)]
    split
    next hn =>
      have hsame := (hsame ht (htab.short _) hn).symm
      rw [htab.pref _ _ hsame]
      simp [hn]
    next hn =>
      refine iff_of_true rfl (Nat.lt_of_not_le fun hle => hn ?_)
      rwa [htab.pref _ _ (hsame ht (htab.short _) hle)]
  obtain ⟨t, ht, hf, hle, hmin⟩ := (decodeSym_readsTo tab s).fills hs hfound hL (.inl ((htab.short w).trans (by decide)))
  have hmod := hsame ht (htab.short _) hle
  have hlook := htab.pref _ _ hmod
  rw [symFound, hlook, if_neg (htab.total _), if_pos hle, hmod] at hf
  exact ⟨_, (Option.some.inj hf).symm, ht.taken hle hmin⟩

/-! ### Reads behind a latch -/

/-- A latch: some locals, and the state its extra field is read in. -/
def State.latch (g : Locals → Locals) (q : Fsm) (s : State) : State := { s with loc := g s.loc, fsm := q }

theorem unread_latch (g : Locals → Locals) (q : Fsm) : Unread (State.latch g q) :=
  ⟨fun _ => rfl, fun _ => rfl, fun _ _ => rfl, fun _ _ => rfl⟩

theorem refill_latch (g : Locals → Locals) (q : Fsm) (s : State) :
    refill (s.latch g q) = (refill s).map (State.latch g q) := by
  have hex : (s.latch g q).inputExhausted = s.inputExhausted.latch g q := by
    rw [State.inputExhausted, State.inputExhausted, apply_ite (State.latch g q)]
    rfl
  rw [refill, refill, hex, apply_ite (Res.map _), apply_ite (Res.map _), apply_ite (Res.map _)]
  rfl

theorem take_latch {n : Nat} (hn : n ≤ 32) (g : Locals → Locals) (q : Fsm) {s t : State} {v : Acc} (h : take n s = .val v t) :
    take n (s.latch g q) = .val v (t.latch g q) := by
  have := (take_readsTo hn s).map ((unread_latch g q).takeFound n) (P := fun _ => True) (fun _ _ _ _ => trivial)
    (fun t _ => refill_latch g q t) trivial
  rw [h] at this
  exact (take_readsTo hn _).unique this

theorem take_latchLen {n : Nat} (hn : n ≤ 32) (b : BitVec 9) (nx : BitVec 3) {s t : State} {v : Acc} (h : take n s = .val v t) :
    take n (s.latchLen b nx) = .val v (t.latchLen b nx) :=
  take_latch hn (fun l => { l with lbase := b, lnx := nx }) .lenExtra h

theorem take_latchDist {n : Nat} (hn : n ≤ 32) (b : BitVec 15) (nx : BitVec 4) {s t : State} {v : Acc}
    (h : take n s = .val v t) : take n (s.latchDist b nx) = .val v (t.latchDist b nx) :=
  take_latch hn (fun l => { l with dbase := b, dnx := nx }) .distExtra h

theorem take_latchRepeat {n : Nat} (hn : n ≤ 32) (sym : BitVec 5) {s t : State} {v : Acc} (h : take n s = .val v t) :
    take n (s.latchRepeat sym) = .val v (t.latchRepeat sym) :=
  take_latch hn (fun l => { l with repsym := sym }) .dynLensExtra h

/-! ### The effect of a decoded symbol -/

/-- Behind the code of its entry and `k` more bits of `w`, a pass goes on as `i` does; symbol 16 has a predecessor. -/
def SymbolRuns (rest : Symbol → State → Result) (tab : Table) (w : Acc) (i : Instr) (k : Nat) : Prop :=
  ∀ t u v, (t.loc.i ≠ 0 ∨ ∀ x, i.shape ≠ .cl 16 x) → take k t = .val v u → v.toNat = bitsFrom w (lookup tab w).2 k →
    rest ⟨(lookup tab w).1, (lookup tab w).2, w.toNat % 2 ^ (lookup tab w).2⟩ t = exec i u

/-- A symbol `decode` finds: its entry's kind is one of its alphabet, and its extra field is at most 15 bits behind its code. -/
def SymbolDecodes (rest : Symbol → State → Result) (tab : Table) (w : Acc) (i : Instr) (n : Nat) : Prop :=
  entryKind (lookup tab w).1 ≠ .empty ∧ ∃ k ≤ 15, n = (lookup tab w).2 + k ∧ SymbolRuns rest tab w i k

theorem symbolDecodes_bare {rest : Symbol → State → Result} {tab : Table} {w : Acc} {i : Instr}
    (hk : entryKind (lookup tab w).1 ≠ .empty)
    (h : ∀ t, rest ⟨(lookup tab w).1, (lookup tab w).2, w.toNat % 2 ^ (lookup tab w).2⟩ t = exec i t) :
    SymbolDecodes rest tab w i (lookup tab w).2 :=
  ⟨hk, 0, Nat.zero_le _, rfl, fun t u v _ hv _ => by rw [h, eq_of_take_zero hv]⟩

theorem orReject_ok {o : Option Instr} {i : Instr} {m n : Nat} (h : orReject o m = .ok (i, n)) : o = some i ∧ n = m := by
  cases o with
  | some j =>
    cases h
    exact ⟨rfl, rfl⟩
  | none => cases h

theorem symbolDecodes_ll {tab : Table} {w : Acc} {i : Instr} {n : Nat} (h : decodeLL tab w = .ok (i, n)) :
    SymbolDecodes llRest tab w i n := by
  unfold decodeLL at h
  dsimp only at h
  split at h
  next hk =>
    obtain ⟨hi, rfl⟩ := orReject_ok h
    have hb : (entryPayload (lookup tab w).1).toNat % 256 < 256 := Nat.mod_lt _ (by decide)
    refine symbolDecodes_bare (by rw [hk]; decide) fun t => ?_
    rw [exec_of_table (shape_llInstr_literal hb) hi, shapeMeaning, if_pos hb, llRest, hk]
  next hk =>
    cases h
    refine symbolDecodes_bare (by rw [hk]; decide) fun t => ?_
    rw [llRest, hk]
    rfl
  next hk =>
    obtain ⟨hi, rfl⟩ := orReject_ok h
    obtain ⟨j, hj, hi⟩ := Option.bind_eq_some_iff.mp hi
    obtain ⟨hlt, hbase, hextra⟩ := baseIndex_spec hj
    have hj' : j < 29 := hlt
    have h8 := (lenExtra_lt j).2
    have hnx : ((entryNX (lookup tab w).1).setWidth 3).toNat = (entryNX (lookup tab w).1).toNat := by
      rw [BitVec.toNat_setWidth, Nat.mod_eq_of_lt (by omega)]
    refine ⟨by rw [hk]; decide, _, by omega, rfl, fun t u v _ hv hx => ?_⟩
    have hlt : v.toNat < 2 ^ (entryNX (lookup tab w).1).toNat := hx ▸ Nat.mod_lt _ (Nat.two_pow_pos _)
    rw [exec_of_table (shape_llInstr_length hj') hi, shapeMeaning, if_neg (by omega), if_neg (by omega), if_pos (by omega),
      Nat.add_sub_cancel_left, hbase, hextra, ← hx, Nat.mod_eq_of_lt hlt, BitVec.ofNat_toNat, BitVec.ofNat_toNat, llRest, hk]
    dsimp only
    rw [hnx, take_latchLen (by omega) _ _ hv]
    rfl
  next hk =>
    split at h
    next j hj =>
      cases h
      refine symbolDecodes_bare (by rw [hk]; decide) fun t => ?_
      rw [llRest, hk, exec_llReserved hj]
    next => cases h
  next => cases h

theorem symbolDecodes_dist {tab : Table} {w : Acc} {i : Instr} {n : Nat} (h : decodeDist tab w = .ok (i, n)) :
    SymbolDecodes distRest tab w i n := by
  unfold decodeDist at h
  dsimp only at h
  split at h
  next hk =>
    obtain ⟨hi, rfl⟩ := orReject_ok h
    obtain ⟨j, hj, hi⟩ := Option.bind_eq_some_iff.mp hi
    obtain ⟨hlt, hbase, hextra⟩ := baseIndex_spec hj
    have hj' : j < 30 := hlt
    have h15 := (entryNX (lookup tab w).1).isLt
    refine ⟨by rw [hk]; decide, _, by omega, rfl, fun t u v _ hv hx => ?_⟩
    have hlt : v.toNat < 2 ^ (entryNX (lookup tab w).1).toNat := hx ▸ Nat.mod_lt _ (Nat.two_pow_pos _)
    rw [exec_of_table (shape_distInstr hj') hi, shapeMeaning, if_pos hj', hbase, hextra, ← hx, Nat.mod_eq_of_lt hlt,
      BitVec.ofNat_toNat, BitVec.ofNat_toNat, BitVec.setWidth_eq, distRest, hk]
    dsimp only
    rw [take_latchDist (by omega) _ _ hv]
    rfl
  next hk =>
    split at h
    next j hj =>
      cases h
      refine symbolDecodes_bare (by rw [hk]; decide) fun t => ?_
      rw [distRest, hk, exec_distReserved hj]
    next => cases h
  next => cases h

theorem symbolDecodes_cl {tab : Table} {w : Acc} {i : Instr} {n : Nat} (h : decodeCL tab w = .ok (i, n)) :
    SymbolDecodes clRest tab w i n := by
  unfold decodeCL at h
  dsimp only at h
  split at h
  next hk =>
    obtain ⟨hi, rfl⟩ := orReject_ok h
    generalize hsym : (entryPayload (lookup tab w).1).toNat = sym at hi ⊢
    have h19 : sym < 19 := by
      by_contra hge
      simp [clInstr, clTable, Nat.not_lt.mp hge] at hi
    have h7 := repeatExtra_le sym
    refine ⟨by rw [hk]; decide, _, by omega, rfl, fun t u v hprev hv hx => ?_⟩
    have hlt : v.toNat < 2 ^ repeatExtra sym := hx ▸ Nat.mod_lt _ (Nat.two_pow_pos _)
    have hshape := shape_clInstr (x := v.toNat) h19
    rw [Nat.mod_eq_of_lt hlt] at hshape
    rw [← hx] at hi
    have hframe := (take_frame (by omega) t).1 v u hv
    have hprev : ¬ (sym = 16 ∧ t.loc.i = 0) := fun ⟨h16, h0⟩ =>
      (hprev.resolve_left (not_not_intro h0)) v.toNat (h16 ▸ shape_of_map hshape i hi)
    have hprev' : ¬ (sym = 16 ∧ u.loc.i = 0) := by
      rw [hframe.same]
      exact hprev
    rw [exec_of_table hshape hi, shapeMeaning, clRest, hsym, if_neg (not_not_intro hk)]
    by_cases h16 : sym < 16
    · rw [if_pos h16, if_pos h16]
      rw [show repeatExtra sym = 0 by interval_cases sym <;> rfl] at hv
      rw [eq_of_take_zero hv]
    · rw [if_neg h16, if_neg h16, if_neg hprev, if_neg hprev', take_latchRepeat (by omega) _ hv]
      exact if_pos h19
  next => cases h
  next => cases h

/-! ### The element a pass awaits -/

/-- Inside DYN_CLL's loop, where that is the state (log 6). -/
def State.inPass (s : State) : State := { s with inLoop := if s.fsm = .dynCll then true else s.inLoop }

theorem inPass_of_ne {s : State} (h : s.fsm ≠ .dynCll) : s.inPass = s := by
  rw [State.inPass, if_neg h]

/-- What a pass reads where `decode` finds `i` in the first `n` bits of `w`: one field, or the code and the extra field of a
symbol. -/
inductive Element (s : State) (slot : Slot) (tab : Table) (w : Acc) (i : Instr) (n : Nat) : Prop where
  | field (k : Acc → State → Result) (hread : fieldRead s = some (n, k)) (hn : n ≤ 25 ∨ slot = .storedLen ∧ n = 32)
      (hrun : ∀ v u, u.fsm = s.fsm → v.toNat = w.toNat % 2 ^ n → k v u = exec i u.inPass)
  | symbol (A : Alphabet) (rest : Symbol → State → Result) (hslot : slotAlphabet slot = some A)
      (hread : symbolRead s = some (tab, rest)) (hfsm : s.fsm ≠ .dynCll) (hdec : SymbolDecodes rest tab w i n)

theorem setWidth_eq_of_mod {v w : Acc} {n : Nat} (h : v.toNat = w.toNat % 2 ^ n) : v.setWidth n = w.setWidth n := by
  refine BitVec.eq_of_toNat_eq ?_
  rw [BitVec.toNat_setWidth, BitVec.toNat_setWidth, h, Nat.mod_mod]

theorem element_of_decode {s : State} {slot : Slot} {tab : Table} {w : Acc} {i : Instr} {n : Nat}
    (hs : s.awaits = some (slot, tab)) (hd : decode slot tab w = .ok (i, n)) : Element s slot tab w i n := by
  unfold State.awaits at hs
  split at hs
  next hf =>
    cases hs
    cases hd
    refine .field _ (by rw [fieldRead, hf]) (.inl (by decide)) fun v u hu hv => ?_
    rw [setWidth_eq_of_mod hv, inPass_of_ne (by rw [hu, hf]; decide)]
  next hf =>
    cases hs
    cases hd
    refine .field _ (by rw [fieldRead, hf]) (.inr ⟨rfl, rfl⟩) fun v u hu hv => ?_
    rw [BitVec.eq_of_toNat_eq (hv.trans (Nat.mod_eq_of_lt w.isLt)), inPass_of_ne (by rw [hu, hf]; decide)]
  next hf =>
    cases hs
    cases hd
    refine .field _ (by rw [fieldRead, hf]) (.inl (by decide)) fun v u hu hv => ?_
    rw [setWidth_eq_of_mod hv, inPass_of_ne (by rw [hu, hf]; decide)]
  next hf =>
    split at hs
    next hi =>
      cases hs
      cases hd
      refine .field _ (by rw [fieldRead, hf]; exact if_pos hi) (.inl (by decide)) fun v u hu hv => ?_
      rw [setWidth_eq_of_mod hv, State.inPass, if_pos (hu.trans hf)]
    next => cases hs
  next hf =>
    split at hs
    next => cases hs
    next hi =>
      cases hs
      exact .symbol .cl clRest rfl (by rw [symbolRead, hf]; exact if_neg hi) (by rw [hf]; decide) (symbolDecodes_cl hd)
  next hf =>
    cases hs
    exact .symbol .ll llRest rfl (by rw [symbolRead, hf]) (by rw [hf]; decide) (symbolDecodes_ll hd)
  next hf =>
    cases hs
    exact .symbol .d distRest rfl (by rw [symbolRead, hf]) (by rw [hf]; decide) (symbolDecodes_dist hd)
  next => cases hs

/-- The element of a stream, through its refills. -/
theorem Element.run_stream {s : State} {slot : Slot} {tab : Table} {i : Instr} {n : Nat}
    (h : Element s slot tab (BitVec.ofNat 32 s.streamValue) i n) (hprev : s.loc.i ≠ 0 ∨ ∀ x, i.shape ≠ .cl 16 x)
    (hs : Readable s) (halign : slot = .storedLen → s.nbits.toNat % 8 = 0)
    (htab : ∀ A, slotAlphabet slot = some A → SelfDelimiting tab) (hn : n ≤ s.streamLen) :
    ∃ u, Taken s n u ∧ (fetchElement s).run = exec i u.inPass := by
  cases h with
  | field k hread h25 hrun =>
    have h32 : n ≤ 25 ∨ n ≤ 32 ∧ s.nbits.toNat % 8 = 0 := h25.imp_right fun ⟨hslot, h32⟩ => ⟨h32.le, halign hslot⟩
    obtain ⟨v, u, htake, hv, hu⟩ := take_stream hs hn h32
    refine ⟨u, hu, ?_⟩
    rw [(fieldRead_spec hread).2, htake]
    refine hrun v u (by rw [hu.frame.same]) ?_
    rw [hv, ofNat_mod_pow (by omega)]
  | symbol A rest hslot hread hfsm hdec =>
    obtain ⟨-, m, hm, rfl, hrun⟩ := hdec
    have hself := htab A hslot
    have h15 := hself.short (BitVec.ofNat 32 s.streamValue)
    obtain ⟨t, hsym, ht⟩ := decodeSym_stream hself hs rfl (by omega)
    obtain ⟨v, u, htake, hv, hu⟩ := take_stream (n := m) (hs.after ht.frame) (by rw [ht.len]; omega) (.inl (by omega))
    have hfu : u.fsm = s.fsm := by rw [(ht.trans hu).frame.same]
    refine ⟨u, ht.trans hu, ?_⟩
    rw [symbolRead_spec hread, hsym, inPass_of_ne (hfu ▸ hfsm)]
    refine hrun t u v (by rw [ht.frame.same]; exact hprev) htake ?_
    rw [hv, ht.value, bitsFrom, ← Nat.mod_mul_right_div_self, ← Nat.mod_mul_right_div_self, ← Nat.pow_add,
      ofNat_mod_pow (by omega)]

/-- The element of the held bits. -/
theorem Element.run_held {s : State} {slot : Slot} {tab : Table} {i : Instr} {n : Nat} (h : Element s slot tab s.bits i n)
    (hprev : s.loc.i ≠ 0 ∨ ∀ x, i.shape ≠ .cl 16 x) (hn : n ≤ s.nbits.toNat) :
    (fetchElement s).run = exec i (s.consume n).inPass := by
  cases h with
  | field k hread h25 hrun =>
    obtain ⟨v, htake, hv⟩ := take_held (n := n) (by omega) hn
    rw [(fieldRead_spec hread).2, htake]
    exact hrun v _ rfl hv
  | symbol A rest hslot hread hfsm hdec =>
    obtain ⟨hk, m, hm, rfl, hrun⟩ := hdec
    have hle : (lookup tab s.bits).2 ≤ s.nbits.toNat := by omega
    obtain ⟨v, htake, hv⟩ := take_held (n := m) (by omega) (s := s.consume (lookup tab s.bits).2) (by rw [nbits_consume hle]; omega)
    rw [symbolRead_spec hread, decodeSym_held hk hle, inPass_of_ne (s := s.consume _) hfsm, ← consume_consume]
    refine hrun _ _ v hprev htake ?_
    rw [hv, State.consume_bits, BitVec.toNat_ushiftRight, Nat.shiftRight_eq_div_pow, bitsFrom]

/-- Settles O9: the pass reads the bits `decode` takes, and goes on as the instruction `decode` finds. -/
theorem stepRunsDecodedElement : Obligations.StepRunsDecodedElement := by
  intro s slot tab i n hprev
  refine ⟨fun hreads hdec hn => ?_, fun hd hfast hawaits hdec hn => ?_⟩
  · obtain ⟨hd, hfast, hawaits, hacc, hcur, hspace, halign, htab⟩ := hreads
    have hself (A : Alphabet) (hA : slotAlphabet slot = some A) : SelfDelimiting tab :=
      let ⟨_, hbuilt⟩ := htab A hA
      selfDelimiting_of_built hbuilt
    obtain ⟨u, hu, hrun⟩ := (element_of_decode hawaits hdec).run_stream hprev ⟨hacc, hcur.1, hspace⟩ halign hself hn
    refine ⟨u.inPass, (step_eq_run hd hfast).trans hrun, hu.value, hu.len, hu.frame.acc hacc, hu.small, ?_⟩
    exact congrArg State.inPass hu.frame.same
  · rw [step_eq_run hd hfast]
    exact (element_of_decode hawaits hdec).run_held hprev hn

end Sys2Proof.Machine
end
section
/-! PROOF. What an instruction does to host memory (R62, R71): an element that moves inside the engine, and a command, leave it; a
literal and a stored byte put one byte out, where there is room; a copy changes only what its cursor advances over. -/

namespace Sys2Proof.Machine

theorem Local.mem {f : State → State} (hf : Local f) (s : State) : (f s).mem = s.mem :=
  (congrArg State.mem (hf.beside s s.mem s.port) :)

/-- Only STORED_BYTE has a stored byte's fields (R195). -/
theorem eq_storedByte_of_shape {i : Instr} {b : Byte} (h : i.shape = .storedByte b) : i = .storedByte b := by
  cases i
  case storedByte c => exact congrArg Instr.storedByte (Shape.storedByte.inj h)
  all_goals cases h

/-- An element that puts nothing out moves inside the engine. -/
theorem inside_of_storesNothing {i : Instr} (hc : ∀ c, i.shape ≠ .command c) (hl : ∀ n x, i.shape = .ll n x → 256 ≤ n)
    (hb : ∀ b, i ≠ .storedByte b) (hd : ∀ n x, i.shape = .dist n x → 30 ≤ n) : Shape.inside i.shape := by
  cases hsh : i.shape with
  | storedByte b => exact absurd (eq_storedByte_of_shape hsh) (hb b)
  | ll n x => exact hl n x hsh
  | dist n x => exact hd n x hsh
  | command c => exact absurd hsh (hc c)
  | _ => trivial

theorem Inner.mem {op : State → Result} (h : Inner op) (s : State) : Gives (fun t => t.mem = s.mem) (op s) := by
  intro t ht
  obtain ⟨u, hu⟩ := h s
  obtain rfl : t = u := Host.Outcome.next.inj (ht.symm.trans hu.answer)
  exact hu.unmoved.1

/-- No command writes host memory (R305, R411). -/
theorem mem_command {i : Instr} (hi : i = .reset ∨ i = .decode ∨ i = .addHistory ∨ i = .workbufLen) (s : State) :
    Gives (fun t => t.mem = s.mem) (exec i s) := by
  rcases hi with rfl | rfl | rfl | rfl
  · exact gives_next rfl
  · intro t ht
    rcases execDecode_next ht with ⟨-, st, rfl⟩ | ⟨-, rfl⟩ <;> rfl
  · intro t ht
    obtain ⟨st, heq⟩ := execAddHistory_next ht
    exact (congrArg State.mem heq :)
  · exact gives_next rfl

/-- What one output byte does to host memory: it is stored at DST_PTR, where there is room (R301). -/
def StoresByte (b : Byte) (s t : State) : Prop :=
  t.mem = if s.port.dstPtr = s.port.dstEnd then s.mem else s.mem.write s.port.dstPtr b

theorem storesByte_full {b : Byte} {s t : State} (h : s.port.dstPtr = s.port.dstEnd) (ht : t.mem = s.mem) :
    StoresByte b s t := by
  rw [StoresByte, if_pos h, ht]

theorem storesByte_emit (b : Byte) {s : State} (h : s.port.dstPtr ≠ s.port.dstEnd) {f : State → State} (hf : Local f) :
    Gives (StoresByte b s) (andThen (emit b s) fun t => .next (f t)) := by
  rcases emit_cases b s with ⟨-, he⟩ | ⟨-, he⟩ <;> rw [he]
  · refine gives_next ?_
    rw [StoresByte, if_neg h, hf.mem]
    rfl
  · exact gives_fault _

theorem storesByte_litOut (s : State) : Gives (StoresByte s.loc.lit s) (litOut s) :=
  gives_ite (fun h => gives_next (storesByte_full h rfl)) fun h => storesByte_emit _ h local_toLLSym

theorem storesByte_literal (b : Byte) (s : State) : Gives (StoresByte b s) (literal b s) :=
  storesByte_litOut { s with loc := { s.loc with lit := b }, fsm := .litOut }

theorem storesByte_execStoredByte (b : Byte) (s : State) : Gives (StoresByte b s) (execStoredByte b s) :=
  gives_ite (fun h => gives_next (storesByte_full h rfl)) fun h => storesByte_emit b h local_countByte

/-- A literal and a stored byte put one byte out (R195, R262). -/
theorem exec_storesByte {i : Instr} (hi : (∃ n x, i.shape = .ll n x ∧ n < 256) ∨ ∃ b, i = .storedByte b) (s : State) :
    ∃ b, Gives (StoresByte b s) (exec i s) := by
  rcases hi with ⟨n, x, hsh, hn⟩ | ⟨b, rfl⟩
  · rw [exec_of_shape hsh, shapeMeaning, if_pos hn]
    exact ⟨_, storesByte_literal _ s⟩
  · exact ⟨b, storesByte_execStoredByte b s⟩

theorem StoresByte.read_ne {b : Byte} {s t : State} (h : StoresByte b s t) {a : Nat} (ha : a ≠ s.port.dstPtr) :
    t.mem.read a = s.mem.read a := by
  rw [h]
  split
  · rfl
  · exact Mem.read_write_ne b ha

/-- Settles O46: what stores nothing is a command or moves inside the engine, what stores a byte stores it at DST_PTR, and every
instruction, a copy too, changes only what its cursor advances over. -/
theorem instructionMemoryFrame : Obligations.InstructionMemoryFrame := by
  intro i s t h
  refine ⟨fun hl hb hd a => ?_, fun hi => ?_, fun _ => (advancesTo_exec i s t h).mem⟩
  · rcases element_or_command i with hc | hc
    · rw [(inner_exec (inside_of_storesNothing hc hl hb hd)).mem s t h]
    · rw [mem_command hc s t h]
  · obtain ⟨b, hst⟩ := exec_storesByte hi s
    exact ⟨fun a ha => (hst t h).read_ne ha, fun hfull => (hst t h).trans (if_pos hfull)⟩

end Sys2Proof.Machine
end
section
/-! PROOF. With ordered cursors and both ranges inside the address space every pass of a DECODE answers a next state (R60, R420): each
address it reads or writes lies below the end of its range, and no pass runs a command. -/

namespace Sys2Proof.Machine

/-- The cursors are ordered, and every address of both ranges exists (R41, R60). -/
structure State.Within (s : State) : Prop where
  cursors : s.CursorsOk
  src : s.port.srcEnd ≤ 2 ^ s.par.addrW
  dst : s.port.dstEnd ≤ 2 ^ s.par.addrW

/-- What only advances stays within the ranges. -/
theorem Advances.within {s t : State} (h : Advances s t) (hs : s.Within) : t.Within := by
  refine ⟨h.cursorsOk hs.cursors, ?_, ?_⟩
  · rw [h.srcEnd, h.par]
    exact hs.src
  · rw [h.dstEnd, h.par]
    exact hs.dst

theorem State.Within.inSpace_src {s : State} (hs : s.Within) (h : s.port.srcPtr ≠ s.port.srcEnd) :
    s.inSpace s.port.srcPtr = true :=
  decide_eq_true ((Nat.lt_of_le_of_ne hs.cursors.1 h).trans_le hs.src)

theorem State.Within.inSpace_dst {s : State} (hs : s.Within) (h : s.port.dstPtr ≠ s.port.dstEnd) :
    s.inSpace s.port.dstPtr = true :=
  decide_eq_true ((Nat.lt_of_le_of_ne hs.cursors.2 h).trans_le hs.dst)

/-! ### Answers -/

theorem completes_next (t : State) : Completes (.next t) := ⟨t, rfl⟩

theorem completes_ite {c : Prop} [Decidable c] {o o' : Result} (h : c → Completes o) (h' : ¬ c → Completes o') :
    Completes (if c then o else o') := by
  split
  · exact h ‹_›
  · exact h' ‹_›

theorem completes_mapNext {f : State → State} {o : Result} (h : Completes o) : Completes (mapNext f o) := by
  obtain ⟨t, rfl⟩ := h
  exact completes_next (f t)

/-- A move inside the engine answers. -/
theorem Inner.completes {op : State → Result} (h : Inner op) (s : State) : Completes (op s) :=
  let ⟨t, ht⟩ := h s
  ⟨t, ht.answer⟩

/-! ### Reads -/

/-- A read finds its value within the ranges, or answers. -/
def Res.Completes {α : Type} : Res α → Prop
  | .val _ t => t.Within
  | .stop o => Machine.Completes o

theorem refill_completes {s : State} (hs : s.Within) : (refill s).Completes := by
  rcases refill_cases s with ⟨-, h⟩ | ⟨-, -, h⟩ | ⟨hn, hne, -, h⟩ | ⟨-, hne, hsp, -⟩
  · rw [h]
    exact completes_next _
  · rw [h]
    exact completes_next _
  · rw [h]
    exact (bitFrame_refilled hn hne).advances.within hs
  · exact nomatch hsp.symm.trans (hs.inSpace_src hne)

theorem ReadsTo.completes {α : Type} {found : State → Option (Res α)}
    (hfound : ∀ s r, s.Within → found s = some r → r.Completes) {s : State} {r : Res α} (h : ReadsTo found s r)
    (hs : s.Within) : r.Completes := by
  induction h with
  | done h => exact hfound _ _ hs h
  | stop _ hr =>
    have ho := refill_completes hs
    rw [hr] at ho
    exact ho
  | more _ hr _ ih =>
    have ht := refill_completes hs
    rw [hr] at ht
    exact ih ht

theorem take_completes {n : Nat} (hn : n ≤ 32) {s : State} (hs : s.Within) : (take n s).Completes := by
  refine ReadsTo.completes (fun t r ht h => ?_) (take_readsTo hn s) hs
  unfold takeFound at h
  split at h
  · cases h
  · cases h
    exact (bitFrame_consume (Nat.not_lt.mp ‹_›)).advances.within ht

theorem decodeSym_completes (tab : Table) {s : State} (hs : s.Within) : (decodeSym tab s).Completes := by
  refine ReadsTo.completes (fun t r ht h => ?_) (decodeSym_readsTo tab s) hs
  unfold symFound at h
  split at h
  · cases h
    exact completes_next _
  split at h
  · cases h
    exact (bitFrame_consume ‹_›).advances.within ht
  · cases h

/-- A read, and what the pass does with its value. -/
theorem completes_run {α : Type} {r : Res α} {k : α → State → Result} (hr : r.Completes)
    (hk : ∀ a t, t.Within → Completes (k a t)) : Completes (r.run k) := by
  cases r with
  | val a t => exact hk a t hr
  | stop o => exact hr

/-! ### Output -/

theorem completes_emit (b : Byte) {s : State} (hs : s.Within) (h : s.port.dstPtr ≠ s.port.dstEnd) (f : State → State) :
    Completes (andThen (emit b s) fun t => .next (f t)) := by
  rw [emit, if_pos (hs.inSpace_dst h)]
  exact completes_next _

theorem completes_litOut {s : State} (hs : s.Within) : Completes (litOut s) :=
  completes_ite (fun _ => completes_next _) fun h => completes_emit _ hs h _

theorem completes_literal (b : Byte) {s : State} (hs : s.Within) : Completes (literal b s) :=
  completes_litOut ⟨hs.cursors, hs.src, hs.dst⟩

theorem completes_execStoredByte (b : Byte) {s : State} (hs : s.Within) : Completes (execStoredByte b s) :=
  completes_ite (fun _ => completes_next _) fun h => completes_emit b hs h _

theorem completes_copyLoop (n : Nat) {s : State} (hs : s.Within) : Completes (copyLoop n s) := by
  induction n generalizing s with
  | zero => exact completes_next _
  | succ n ih =>
    rw [copyLoop]
    refine completes_ite (fun _ => completes_next _) fun h => ?_
    rw [if_pos (hs.inSpace_dst h)]
    exact ih ⟨⟨hs.cursors.1, Nat.lt_of_le_of_ne hs.cursors.2 h⟩, hs.src, hs.dst⟩

theorem completes_finishDist (x : Nat) {s : State} (hs : s.Within) : Completes (finishDist x s) :=
  completes_ite (fun _ => completes_next _) fun _ => completes_copyLoop _ ⟨hs.cursors, hs.src, hs.dst⟩

/-! ### Passes -/

theorem completes_llRest (y : Symbol) {s : State} (hs : s.Within) : Completes (llRest y s) := by
  unfold llRest
  split
  · exact completes_literal _ hs
  · exact inner_endOfBlock.completes s
  · exact completes_run (take_completes (by omega) (((local_latchLen _ _).advances s).within hs)) fun x t _ =>
      (inner_finishLength x.toNat).completes t
  · exact inner_badCode.completes s
  · exact completes_next _

theorem completes_distRest (y : Symbol) {s : State} (hs : s.Within) : Completes (distRest y s) := by
  unfold distRest
  split
  · exact completes_run (take_completes (by omega) (((local_latchDist _ _).advances s).within hs)) fun x _ ht =>
      completes_finishDist x.toNat ht
  · exact inner_badCode.completes s
  · exact completes_next _

theorem completes_clRest (y : Symbol) {s : State} (hs : s.Within) : Completes (clRest y s) := by
  have hn : repeatExtra (entryPayload y.entry).toNat ≤ 32 := (repeatExtra_le _).trans (by decide)
  refine completes_ite (fun _ => completes_next _) fun _ => completes_ite (fun _ => (inner_codeLength _).completes s) fun _ =>
    completes_ite (fun _ => completes_next _) fun _ => ?_
  exact completes_run (take_completes hn (((local_latchRepeat _).advances s).within hs)) fun x t _ =>
    completes_ite (fun _ => (inner_applyRepeat x.toNat).completes t) fun _ => completes_next _

theorem completes_fetchStored {s : State} (hs : s.Within) : Completes (fetchStored s).run := by
  unfold fetchStored
  split
  · exact completes_next _
  split
  · exact completes_next _
  split
  · exact completes_next _
  next hne =>
  rw [if_pos (hs.inSpace_src hne)]
  exact completes_execStoredByte _ ⟨⟨Nat.lt_of_le_of_ne hs.cursors.1 hne, hs.cursors.2⟩, hs.src, hs.dst⟩

/-- Every slow pass answers (R341). -/
theorem completes_fetchElement {s : State} (hs : s.Within) : Completes (fetchElement s).run := by
  unfold fetchElement
  cases s.fsm <;> dsimp only
  case hdr =>
    rw [run_fetch]
    exact completes_run (take_completes (by omega) hs) fun v t _ => (inner_exec (inside_decodeHeader _)).completes t
  case storedLen =>
    rw [run_fetch]
    exact completes_run (take_completes (by omega) hs) fun v t _ => (inner_execStoredLen _ _).completes t
  case storedCopy => exact completes_fetchStored hs
  case fixedInit => exact inner_fixedInit.completes s
  case dynHdr =>
    rw [run_fetch]
    exact completes_run (take_completes (by omega) hs) fun v t _ => (inner_execDynHdr _ _ _).completes t
  case dynCll =>
    unfold fetchCll
    split
    · rw [run_fetch]
      exact completes_run (take_completes (by omega) hs) fun v t _ => completes_next _
    · exact inner_cllDone.completes s
  case dynLensSym =>
    by_cases hi : s.loc.i.toNat = s.lensTotal
    · rw [fetchCL, if_pos hi]
      exact completes_next _
    · rw [run_fetchCL hi]
      exact completes_run (decodeSym_completes _ hs) fun y _ ht => completes_clRest y ht
  case dynLensExtra =>
    unfold resumeRepeat
    split
    · exact completes_next _
    · have hn : repeatExtra s.loc.repsym.toNat ≤ 32 := (repeatExtra_le _).trans (by decide)
      rw [run_fetch]
      exact completes_run (take_completes hn hs) fun x t _ => (inner_applyRepeat x.toNat).completes t
  case dynBuild => exact inner_dynBuild.completes s
  case llSym =>
    rw [run_fetchLL]
    exact completes_run (decodeSym_completes _ hs) fun y _ ht => completes_llRest y ht
  case litOut => exact completes_litOut hs
  case lenExtra =>
    rw [run_fetch]
    exact completes_run (take_completes (by omega) hs) fun x t _ => (inner_finishLength x.toNat).completes t
  case distSym =>
    rw [run_fetchDist]
    exact completes_run (decodeSym_completes _ hs) fun y _ ht => completes_distRest y ht
  case distExtra =>
    rw [run_fetch]
    exact completes_run (take_completes (by omega) hs) fun x _ ht => completes_finishDist x.toNat ht
  case copy => exact completes_copyLoop _ hs
  case blockEnd => exact inner_blockEnd.completes s
  case done => exact completes_next _

/-- Settles O60: a slow pass stays within the ranges, and a fast pass is a slow one from a state that has read ahead within them. -/
theorem decodePassNeverStops : Obligations.DecodePassNeverStops := by
  rintro s ⟨hb, hd, hi⟩ hcur hsrc hdst
  have hs : s.Within := ⟨hcur, hsrc, hdst⟩
  rw [step_of_pass hb hi]
  rcases pass_decoding hd with ⟨hp, -⟩ | ⟨hp, -, -⟩ <;> rw [hp]
  · exact completes_fetchElement hs
  · exact completes_mapNext (completes_fetchElement ((advances_readAheadLoop 4 s).within hs))

end Sys2Proof.Machine
end
section
/-! PROOF. The code of a symbol (R153, R154, R157): no code a build accepts begins with another, so bits that begin with a symbol's
code are looked up as that symbol, whatever follows (R167). -/

namespace Sys2Proof.Machine

/-- The symbols of one length, in increasing order, are counted by those before them (R157). -/
theorem getElem?_symbols {L y : Nat} {l : List Nat} (h : l[y]? = some L) (k : Nat) :
    (((l.zipIdx k).filter (fun p => p.1 = L)).map (·.2))[(l.take y).count L]? = some (k + y) := by
  induction l generalizing k y with
  | nil => cases h
  | cons x l ih =>
    cases y with
    | zero =>
      obtain rfl : x = L := Option.some.inj h
      simp [List.zipIdx_cons]
    | succ y =>
      have hk : k + 1 + y = k + (y + 1) := by omega
      have := hk ▸ ih (y := y) (by simpa using h) (k + 1)
      by_cases hx : x = L <;> simp [List.zipIdx_cons, hx, this]

/-- A symbol with a code is the one its code stands for (R157). -/
theorem symbolOf_codeOf {lens : List Nat} {y : Nat} (hy : lens.getD y 0 ≠ 0) :
    symbolOf? lens (lens.getD y 0) (codeOf lens y) = some y := by
  have hget : lens[y]? = some (lens.getD y 0) := by
    cases h : lens[y]? with
    | none => exact absurd (by rw [List.getD_eq_getElem?_getD, h]; rfl) hy
    | some L => rw [List.getD_eq_getElem?_getD, h]; rfl
  rw [symbolOf?, codeOf, if_pos (Nat.le_add_right _ _), Nat.add_sub_cancel_left, symbolsOf, getElem?_symbols hget 0, Nat.zero_add]

/-- Each length of a code has room for its codes (R154). -/
def Fits (lens : List Nat) : Prop := ∀ L ≤ 15, firstCode lens L + codeCount lens L ≤ 2 ^ L

theorem kraftLoop_fits {lens : List Nat} {n L left r : Nat} (h : kraftLoop lens (List.range' (L + 1) n) left = some r)
    (hleft : firstCode lens L + codeCount lens L + left = 2 ^ L) {M : Nat} (h1 : L ≤ M) (h2 : M ≤ L + n) :
    firstCode lens M + codeCount lens M ≤ 2 ^ M := by
  induction n generalizing L left with
  | zero =>
    obtain rfl : M = L := by omega
    omega
  | succ n ih =>
    obtain rfl | hlt : M = L ∨ L + 1 ≤ M := by omega
    · omega
    rw [List.range'_succ, kraftLoop] at h
    split at h
    · cases h
    · exact ih h (by rw [firstCode, Nat.pow_succ]; omega) hlt (by omega)

/-- A code that builds is not over-subscribed (R154). -/
theorem fits_of_build {p : Params} {A : Alphabet} {lens : List Nat} {t : Table} (h : build p A lens = .ok t) : Fits lens := by
  unfold build at h
  split at h
  · cases h
  next hk => exact fun L hL => kraftLoop_fits (L := 0) (n := 15) hk rfl (Nat.zero_le L) (by omega)

/-- The codes of a length lie above those of every shorter length (R157). -/
theorem firstCode_add (lens : List Nat) (M k : Nat) :
    2 ^ (k + 1) * (firstCode lens M + codeCount lens M) ≤ firstCode lens (M + k + 1) := by
  induction k with
  | zero => simp [firstCode]
  | succ k ih =>
    rw [← Nat.add_assoc, firstCode, Nat.pow_succ']
    have := Nat.mul_le_mul_left 2 (ih.trans (Nat.le_add_right _ (codeCount lens (M + k + 1))))
    rwa [← Nat.mul_assoc] at this

/-- Bits that begin with a symbol's code begin with no shorter one, and are found to begin with that code (R167). -/
theorem codeIn_of_code {lens : List Nat} (hfits : Fits lens) {y r : Nat} (h0 : lens.getD y 0 ≠ 0) (h15 : lens.getD y 0 ≤ 15)
    (hr : r % 2 ^ lens.getD y 0 = revBits (lens.getD y 0) (codeOf lens y)) :
    codeIn lens r (shortLengths ++ longLengths) = some (lens.getD y 0, y) := by
  have hsym := symbolOf_codeOf h0
  have hfit := hfits _ h15
  obtain ⟨hle, hlt⟩ := (symbolOf_isSome h0).mp (Option.isSome_iff_exists.mpr ⟨y, hsym⟩)
  generalize lens.getD y 0 = L at *
  generalize codeOf lens y = c at *
  have hat {M : Nat} (hM : M ≤ L) : revBits M (r % 2 ^ M) = c / 2 ^ (L - M) := by
    have hmod : revBits L c % 2 ^ M = revBits M (c / 2 ^ (L - M)) := by
      have hdiv := revBits_add_div M (L - M) (revBits L c)
      rw [Nat.add_sub_cancel' hM, revBits_revBits, Nat.mod_eq_of_lt (by omega)] at hdiv
      rw [hdiv, revBits_revBits]
    have hsmall : c / 2 ^ (L - M) < 2 ^ M := by
      refine Nat.div_lt_of_lt_mul ?_
      rw [← Nat.pow_add, Nat.sub_add_cancel hM]
      omega
    rw [← Nat.mod_mod_of_dvd r (Nat.pow_dvd_pow 2 hM), hr, hmod, revBits_revBits, Nat.mod_eq_of_lt hsmall]
  have hown : codeAt lens r L = some y := by
    rw [codeAt, hat (Nat.le_refl L), Nat.sub_self, Nat.pow_zero, Nat.div_one, hsym]
  have hshorter {M : Nat} (h1 : 1 ≤ M) (hM : M < L) : codeAt lens r M = none := by
    have hfirst := firstCode_add lens M (L - M - 1)
    rw [show L - M - 1 + 1 = L - M by omega, show M + (L - M - 1) + 1 = L by omega, Nat.mul_comm] at hfirst
    have hge := (Nat.le_div_iff_mul_le (Nat.two_pow_pos (L - M))).mpr (hfirst.trans hle)
    rw [codeAt, ← Option.not_isSome_iff_eq_none, symbolOf_isSome (by omega), hat hM.le]
    omega
  have hsplit := List.range'_append_1 (s := 1) (m := L - 1) (n := 15 - L + 1)
  rw [show 1 + (L - 1) = L by omega, show L - 1 + (15 - L + 1) = 15 by omega, List.range'_succ, ← lengths_eq] at hsplit
  have hbelow : codeIn lens r (List.range' 1 (L - 1)) = none := codeIn_eq_none.mpr fun M hM => by
    rw [List.mem_range'_1] at hM
    exact hshorter hM.1 (by omega)
  rw [← hsplit, codeIn_append, hbelow, Option.none_or, codeIn_cons, hown]
  rfl

theorem LensOk.getD_le {lens : List Nat} (h : LensOk lens) (y : Nat) : lens.getD y 0 ≤ 15 := by
  rw [List.getD_eq_getElem?_getD]
  cases hy : lens[y]? with
  | none => exact Nat.zero_le _
  | some L => exact h.2 L (List.mem_of_getElem? hy)

/-- R167: in a built table, whatever follows a symbol's code, the lookup selects the symbol's entry and the code's length. -/
theorem lookup_of_code {p : Params} {A : Alphabet} {lens : List Nat} {t : Table} (h : BuiltFrom p A lens t) {y : Nat} {w : Acc}
    (h0 : lens.getD y 0 ≠ 0) (hw : w.toNat % 2 ^ lens.getD y 0 = revBits (lens.getD y 0) (codeOf lens y)) :
    lookup t w = (makeEntry A y (if lens.getD y 0 ≤ 9 then lens.getD y 0 else lens.getD y 0 - 9), lens.getD y 0) := by
  rw [lookup_of_built h, codeIn_of_code (fits_of_build h.2) h0 (LensOk.getD_le h.1 y) hw, codeAnswer]

end Sys2Proof.Machine
end
section
/-! PROOF. Decoding undoes encoding in every built code (R91 to R101). A symbol is its alphabet, its number and its extra field; a
lookup that answers the symbol's entry, with the extra field behind the code, is decoded as that symbol. -/

namespace Sys2Proof.Machine

/-! ### Instructions by their fields -/

/-- The fields of symbol `n` of an alphabet, with extra field `x`. -/
def Alphabet.shape : Alphabet → Nat → Nat → Shape
  | .cl => .cl
  | .ll => .ll
  | .d => .dist

/-- The slot an alphabet's symbols are read in (R96, R98, R99). -/
def Alphabet.slot : Alphabet → Slot
  | .cl => .cl
  | .ll => .ll
  | .d => .dist

/-- The number of a symbol's extra bits (R97, R104, R105). -/
def Alphabet.extra : Alphabet → Nat → Nat
  | .cl, n => repeatExtra n
  | .ll, n => if n < 257 then 0 else lenExtra.getD (n - 257) 0
  | .d, n => distExtra.getD n 0

/-- The symbols an alphabet gives a meaning (R228). -/
def Alphabet.size : Alphabet → Nat
  | .cl => 19
  | .ll => 286
  | .d => 30

/-- The extra field of a shape, with the number of its bits. -/
def extraField : Shape → Nat × Nat
  | .cl n x => (x, Alphabet.cl.extra n)
  | .ll n x => (x, Alphabet.ll.extra n)
  | .dist n x => (x, Alphabet.d.extra n)
  | _ => (0, 0)

/-- Every instruction is the one its row of the opcode table names, and its extra field fits (R97, R104, R105). -/
theorem tableRow (i : Instr) : i.shape.instr = some i ∧ (extraField i.shape).1 < 2 ^ (extraField i.shape).2 := by
  cases i
  case blockStored f | blockFixed f | blockDynamic f | blockReserved f => exact ⟨by cases f <;> rfl, Nat.two_pow_pos _⟩
  case clRepPrev x | clRepZ3 x | clRepZ11 x => exact ⟨Laws.TableRow.cl_extra rfl (by simp), x.isLt⟩
  case len265 x | len266 x | len267 x | len268 x | len269 x | len270 x | len271 x | len272 x | len273 x | len274 x | len275 x
      | len276 x | len277 x | len278 x | len279 x | len280 x | len281 x | len282 x | len283 x | len284 x =>
    exact ⟨Laws.TableRow.ll_extra rfl (by simp), x.isLt⟩
  case dist4 x | dist5 x | dist6 x | dist7 x | dist8 x | dist9 x | dist10 x | dist11 x | dist12 x | dist13 x | dist14 x
      | dist15 x | dist16 x | dist17 x | dist18 x | dist19 x | dist20 x | dist21 x | dist22 x | dist23 x | dist24 x | dist25 x
      | dist26 x | dist27 x | dist28 x | dist29 x =>
    exact ⟨Laws.TableRow.dist_extra rfl (by simp), x.isLt⟩
  all_goals exact ⟨rfl, Nat.two_pow_pos _⟩

theorem instr_of_shape {i : Instr} {h : Shape} (hi : i.shape = h) : h.instr = some i := hi ▸ (tableRow i).1

/-- A symbol's extra field fits its bits. -/
theorem extra_lt {A : Alphabet} {i : Instr} {n x : Nat} (hi : i.shape = A.shape n x) : x < 2 ^ A.extra n := by
  have h := (tableRow i).2
  rw [hi] at h
  cases A <;> exact h

theorem slot_of_shape {A : Alphabet} {i : Instr} {n x : Nat} (hi : i.shape = A.shape n x) : i.slot = A.slot := by
  rw [Instr.slot, hi]
  cases A <;> rfl

/-- A symbol is encoded as its code, then its extra field (R100, R101). -/
theorem encode_of_shape {A : Alphabet} {i : Instr} {n x : Nat} (hi : i.shape = A.shape n x) (lens : List Nat) :
    encode lens i = (revBits (lens.getD n 0) (codeOf lens n) + 2 ^ lens.getD n 0 * x, lens.getD n 0 + A.extra n) := by
  rw [encode, hi]
  cases A <;> rfl

/-! ### A decoded symbol -/

/-- The index of a length's base and extra-bit count (R104). -/
theorem baseIndex_length : ∀ j < 29, (List.range lenBase.length).find? (fun k =>
    lenBase.getD k 0 = lenBase.getD j 0 && lenExtra.getD k 0 = lenExtra.getD j 0) = some j := by
  decide +kernel

/-- The index of a distance's base and extra-bit count (R105). -/
theorem baseIndex_distance : ∀ j < 30, (List.range distBase.length).find? (fun k =>
    distBase.getD k 0 = distBase.getD j 0 && distExtra.getD k 0 = distExtra.getD j 0) = some j := by
  decide +kernel

theorem decodeCL_of_lookup {t : Table} {w : Acc} {n nb L : Nat} (hl : lookup t w = (makeEntry .cl n nb, L)) (hn : n < 19)
    (hb : nb < 16) {i : Instr} (hi : clInstr n (bitsFrom w L (repeatExtra n)) = some i) :
    decodeCL t w = .ok (i, L + repeatExtra n) := by
  have hpay : (entryPayload (makeEntry .cl n nb)).toNat = n := entryPayload_pack (by decide) (by omega) (by decide) hb
  have hkind : entryKind (makeEntry .cl n nb) = .lit := entryKind_pack (by decide) (by omega) (by decide) hb
  simp only [decodeCL, hl, hkind, hpay, hi, orReject]

theorem decodeLL_of_lookup {t : Table} {w : Acc} {n nb L : Nat} (hl : lookup t w = (makeEntry .ll n nb, L)) (hn : n < 286)
    (hb : nb < 16) {i : Instr} (hi : llInstr n (bitsFrom w L (Alphabet.ll.extra n)) = some i) :
    decodeLL t w = .ok (i, L + Alphabet.ll.extra n) := by
  obtain hn' | rfl | ⟨j, rfl, hj⟩ : n < 256 ∨ n = 256 ∨ ∃ j, n = 257 + j ∧ j < 29 := by
    by_cases h : n ≤ 256
    · omega
    · exact .inr (.inr ⟨n - 257, by omega, by omega⟩)
  · have he : makeEntry .ll n nb = packEntry 0x80 n 0 nb := if_pos hn'
    have hx : Alphabet.ll.extra n = 0 := if_pos (by omega)
    have hpay : (entryPayload (makeEntry .ll n nb)).toNat = n := by rw [he, entryPayload_pack (by decide) (by omega) (by decide) hb]
    have hkind : entryKind (makeEntry .ll n nb) = .lit := by rw [he, entryKind_pack (by decide) (by omega) (by decide) hb]; rfl
    rw [hx, bitsFrom, Nat.pow_zero, Nat.mod_one] at hi
    simp only [decodeLL, hl, hkind, litEntryInstr, hpay, Nat.mod_eq_of_lt hn', hi, orReject, hx, Nat.add_zero]
  · have hkind : entryKind (makeEntry .ll 256 nb) = .eob := entryKind_pack (by decide) (by decide) (by decide) hb
    cases hi
    simp only [decodeLL, hl, hkind]
    rfl
  · obtain ⟨hbase, hextra⟩ := lenExtra_lt j
    have he : makeEntry .ll (257 + j) nb = packEntry 0x40 (lenBase.getD j 0) (lenExtra.getD j 0) nb := by
      rw [makeEntry, if_neg (by omega), if_neg (by omega), if_pos hn, Nat.add_sub_cancel_left]
    have hx : Alphabet.ll.extra (257 + j) = lenExtra.getD j 0 := by
      rw [Alphabet.extra, if_neg (by omega), Nat.add_sub_cancel_left]
    have hkind : entryKind (makeEntry .ll (257 + j) nb) = .base := by
      rw [he, entryKind_pack (by decide) (by omega) (by omega) hb]; rfl
    have hnx : (entryNX (makeEntry .ll (257 + j) nb)).toNat = lenExtra.getD j 0 := by
      rw [he, entryNX_pack (by decide) (by omega) (by omega) hb]
    have hidx : baseIndex lenBase lenExtra (makeEntry .ll (257 + j) nb) = some j := by
      rw [baseIndex, hnx, he, entryPayload_pack (by decide) (by omega) (by omega) hb, baseIndex_length j hj]
    rw [hx] at hi
    simp only [decodeLL, hl, hkind, hnx, lenEntryInstr, hidx, Option.bind_some, hi, orReject, hx]

theorem decodeDist_of_lookup {t : Table} {w : Acc} {n nb L : Nat} (hl : lookup t w = (makeEntry .d n nb, L)) (hn : n < 30)
    (hb : nb < 16) {i : Instr} (hi : distInstr n (bitsFrom w L (distExtra.getD n 0)) = some i) :
    decodeDist t w = .ok (i, L + distExtra.getD n 0) := by
  obtain ⟨hbase, hextra⟩ := distExtra_lt n
  have he : makeEntry .d n nb = packEntry 0x40 (distBase.getD n 0) (distExtra.getD n 0) nb := if_pos hn
  have hkind : entryKind (makeEntry .d n nb) = .base := by rw [he, entryKind_pack (by decide) (by omega) (by omega) hb]; rfl
  have hnx : (entryNX (makeEntry .d n nb)).toNat = distExtra.getD n 0 := by
    rw [he, entryNX_pack (by decide) (by omega) (by omega) hb]
  have hidx : baseIndex distBase distExtra (makeEntry .d n nb) = some n := by
    rw [baseIndex, hnx, he, entryPayload_pack (by decide) (by omega) (by omega) hb, baseIndex_distance n hn]
  simp only [decodeDist, hl, hkind, hnx, distEntryInstr, hidx, Option.bind_some, hi, orReject]

/-- A lookup that answers a symbol's entry, with the symbol's extra field behind the code, decodes the symbol. -/
theorem decode_of_lookup {A : Alphabet} {t : Table} {w : Acc} {i : Instr} {n x nb L : Nat} (hi : i.shape = A.shape n x)
    (hn : n < A.size) (hl : lookup t w = (makeEntry A n nb, L)) (hb : nb < 16) (hx : bitsFrom w L (A.extra n) = x) :
    decode A.slot t w = .ok (i, L + A.extra n) := by
  have hinstr := instr_of_shape hi
  subst hx
  cases A with
  | cl => exact decodeCL_of_lookup hl hn hb hinstr
  | ll => exact decodeLL_of_lookup hl hn hb hinstr
  | d => exact decodeDist_of_lookup hl hn hb hinstr

/-! ### The bits of a symbol -/

/-- An encoded symbol in a stream: the code first, then the extra field. -/
theorem bits_of_symbol {c L x k : Nat} (hc : c < 2 ^ L) (hx : x < 2 ^ k) (h32 : L + k ≤ 32) (g : Nat) :
    (BitVec.ofNat 32 (c + 2 ^ L * x + 2 ^ (L + k) * g)).toNat % 2 ^ L = c ∧
    bitsFrom (BitVec.ofNat 32 (c + 2 ^ L * x + 2 ^ (L + k) * g)) L k = x := by
  have hsplit : c + 2 ^ L * x + 2 ^ (L + k) * g = c + 2 ^ L * (x + 2 ^ k * g) := by
    rw [Nat.pow_add]
    ring
  rw [hsplit]
  refine ⟨?_, ?_⟩
  · rw [ofNat_mod_pow (by omega), Nat.add_mul_mod_self_left, Nat.mod_eq_of_lt hc]
  · rw [bitsFrom, ← Nat.mod_mul_right_div_self, ← Nat.pow_add, ofNat_mod_pow h32, Nat.pow_add, Nat.mod_mul_right_div_self,
      Nat.add_mul_div_left _ _ (Nat.two_pow_pos L), Nat.div_eq_of_lt hc, Nat.zero_add, Nat.add_mul_mod_self_left,
      Nat.mod_eq_of_lt hx]

theorem Alphabet.extra_le (A : Alphabet) {n : Nat} (hn : n < A.size) : A.extra n ≤ 13 := by
  have h : ∀ A : Alphabet, ∀ n < A.size, A.extra n ≤ 13 := by
    rintro (_ | _ | _) <;> decide +kernel
  exact h A n hn

/-- A symbol is decoded in every built code that gives it a code. -/
theorem decode_encode_symbol {p : Params} {A : Alphabet} {lens : List Nat} {tab : Table} (hbuilt : BuiltFrom p A lens tab)
    {i : Instr} {n x : Nat} (hi : i.shape = A.shape n x) (hn : n < A.size) (h0 : lens.getD n 0 ≠ 0) (g : Nat) :
    decode A.slot tab (BitVec.ofNat 32 ((encode lens i).1 + 2 ^ (encode lens i).2 * g)) = .ok (i, (encode lens i).2) := by
  have h15 := LensOk.getD_le hbuilt.1 n
  have hk := A.extra_le hn
  obtain ⟨hcode, hextra⟩ := bits_of_symbol (revBits_lt _ (codeOf lens n)) (extra_lt hi) (L := lens.getD n 0) (by omega) g
  rw [encode_of_shape hi]
  exact decode_of_lookup hi hn (lookup_of_code hbuilt h0 hcode) (by split <;> omega) hextra

theorem clSymbol_lt {i : Instr} {n x : Nat} (hi : i.shape = .cl n x) : n < Alphabet.cl.size := by
  have hinstr : clInstr n x = some i := instr_of_shape hi
  obtain ⟨f, hf, -⟩ := Option.map_eq_some_iff.mp hinstr
  exact (List.getElem?_eq_some_iff.mp hf).1

/-- Settles O45: the lookup finds the symbol by its code, and the extra field stands behind it. -/
theorem dynamicDecodeEncode : Obligations.DynamicDecodeEncode := by
  intro p A lens tab i g n x hbuilt hslot hshape h0
  have hsym : i.shape = A.shape n x ∧ n < A.size := by
    rcases hshape with hi | ⟨hi, hn⟩ | ⟨hi, hn⟩ <;> rw [Instr.slot, hi] at hslot <;> cases hslot
    · exact ⟨hi, clSymbol_lt hi⟩
    · exact ⟨hi, hn⟩
    · exact ⟨hi, hn⟩
  rw [slot_of_shape hsym.1]
  exact decode_encode_symbol hbuilt hsym.1 hsym.2 h0 g

end Sys2Proof.Machine
end
section
/-! PROOF. Decoding undoes encoding in the fixed code (R102, R103), whose four reserved symbols are told by their codes, and for the
elements of fixed width (R92 to R95, R109). -/

namespace Sys2Proof.Machine

/-! ### Symbols -/

/-- The code `State.place` encodes an alphabet's symbols with gives each of them a code (R102, log 10). -/
theorem placeLens_ne_zero : ∀ A : Alphabet, ∀ n < A.size, (placeLens A.slot).getD n 0 ≠ 0 := by
  rintro (_ | _ | _) <;> decide +kernel

theorem built_placeTable (p : Params) (A : Alphabet) : BuiltFrom p A (placeLens A.slot) (placeTable A.slot) := by
  cases A with
  | cl => exact ⟨by decide, build_of_complete (by decide +kernel) (by decide +kernel) (by decide +kernel)⟩
  | ll => exact ⟨by decide +kernel, build_fixedLL p⟩
  | d => exact ⟨by decide +kernel, build_fixedD p⟩

/-- Decoding undoes encoding in the code `State.place` uses. -/
def PlaceRoundTrip (i : Instr) (g : Nat) : Prop :=
  decode i.slot (placeTable i.slot)
      (BitVec.ofNat 32 ((encode (placeLens i.slot) i).1 + 2 ^ (encode (placeLens i.slot) i).2 * g)) =
    .ok (i, (encode (placeLens i.slot) i).2)

theorem place_symbol {A : Alphabet} {i : Instr} {n x : Nat} (hi : i.shape = A.shape n x) (hn : n < A.size) (g : Nat) :
    PlaceRoundTrip i g := by
  rw [PlaceRoundTrip, slot_of_shape hi]
  exact decode_encode_symbol (built_placeTable Params.vectors A) hi hn (placeLens_ne_zero A n hn) g

/-- A symbol with no meaning has an INVALID entry, and is told by its code (R103, R156, log 9). -/
theorem decodeLL_of_reserved {t : Table} {w : Acc} {n nb L : Nat} (hl : lookup t w = (makeEntry .ll n nb, L)) (hn : 286 ≤ n)
    (hb : nb < 16) {i : Instr} (hi : llReserved (bitsFrom w 0 L) L = some i) : decodeLL t w = .ok (i, L) := by
  have hkind : entryKind (makeEntry .ll n nb) = .invalid := by
    rw [makeEntry, if_neg (by omega), if_neg (by omega), if_neg (by omega), entryKind_pack (by decide) (by decide) (by decide) hb]
    rfl
  simp only [decodeLL, hl, hkind, hi]

theorem decodeDist_of_reserved {t : Table} {w : Acc} {n nb L : Nat} (hl : lookup t w = (makeEntry .d n nb, L)) (hn : 30 ≤ n)
    (hb : nb < 16) {i : Instr} (hi : distReserved (bitsFrom w 0 L) L = some i) : decodeDist t w = .ok (i, L) := by
  have hkind : entryKind (makeEntry .d n nb) = .invalid := by
    rw [makeEntry, if_neg (by omega), entryKind_pack (by decide) (by decide) (by decide) hb]
    rfl
  simp only [decodeDist, hl, hkind, hi]

/-- A symbol with no extra field, where it is decoded from its entry and its code. -/
theorem place_bare {A : Alphabet} {i : Instr} {n L : Nat} (hi : i.shape = A.shape n 0) (hx : A.extra n = 0)
    (hlen : (placeLens A.slot).getD n 0 = L) (hL : L ≠ 0 ∧ L ≤ 9)
    (hdec : ∀ t w, lookup t w = (makeEntry A n L, L) → bitsFrom w 0 L = revBits L (codeOf (placeLens A.slot) n) →
      decode A.slot t w = .ok (i, L)) (g : Nat) :
    PlaceRoundTrip i g := by
  have hsmall := revBits_lt L (codeOf (placeLens A.slot) n)
  obtain ⟨hcode, -⟩ := bits_of_symbol (k := A.extra n) hsmall (Nat.two_pow_pos _) (by omega) g
  rw [PlaceRoundTrip, slot_of_shape hi, encode_of_shape hi, hlen]
  have hlook := lookup_of_code (built_placeTable Params.vectors A) (by rw [hlen]; exact hL.1) (by rw [hlen, hcode])
  rw [hlen, if_pos hL.2] at hlook
  rw [hdec _ _ hlook (by rw [bitsFrom, Nat.pow_zero, Nat.div_one, hcode]), hx, Nat.add_zero]

/-- The two symbols the fixed literal/length code has beyond those with a meaning (R103). -/
theorem llReserved_fixed {i : Instr} {n x : Nat} (hi : i.shape = .ll n x) (hn : 286 ≤ n) :
    i.shape = .ll n 0 ∧ Alphabet.ll.extra n = 0 ∧ fixedLL.getD n 0 = 8 ∧
      llReserved (revBits 8 (codeOf fixedLL n)) 8 = some i := by
  have hinstr : llInstr n x = some i := instr_of_shape hi
  have hhigh := llInstr_high (n - 256) x
  rw [Nat.add_sub_cancel' (by omega), hinstr, eq_comm] at hhigh
  obtain ⟨f, hf, -⟩ := Option.map_eq_some_iff.mp hhigh
  have hlt : n - 256 < 32 := (List.getElem?_eq_some_iff.mp hf).1
  obtain rfl | rfl : n = 286 ∨ n = 287 := by omega
  · obtain rfl : Instr.llInvalid286 = i := Option.some.inj hinstr
    exact ⟨rfl, rfl, by decide +kernel, by decide +kernel⟩
  · obtain rfl : Instr.llInvalid287 = i := Option.some.inj hinstr
    exact ⟨rfl, rfl, by decide +kernel, by decide +kernel⟩

theorem place_llReserved {i : Instr} {n x : Nat} (hi : i.shape = .ll n x) (hn : 286 ≤ n) (g : Nat) : PlaceRoundTrip i g := by
  obtain ⟨h0, hx, hlen, hres⟩ := llReserved_fixed hi hn
  refine place_bare (A := .ll) h0 hx hlen (by decide) (fun t w hl hw => decodeLL_of_reserved hl hn (by decide) ?_) g
  rw [hw]
  exact hres

/-- The two symbols the fixed distance code has beyond those with a meaning (R103). -/
theorem distReserved_fixed {i : Instr} {n x : Nat} (hi : i.shape = .dist n x) (hn : 30 ≤ n) :
    i.shape = .dist n 0 ∧ Alphabet.d.extra n = 0 ∧ fixedD.getD n 0 = 5 ∧
      distReserved (revBits 5 (codeOf fixedD n)) 5 = some i := by
  have hinstr : distInstr n x = some i := instr_of_shape hi
  obtain ⟨f, hf, -⟩ := Option.map_eq_some_iff.mp hinstr
  have hlt : n < 32 := (List.getElem?_eq_some_iff.mp hf).1
  obtain rfl | rfl : n = 30 ∨ n = 31 := by omega
  · obtain rfl : Instr.distInvalid30 = i := Option.some.inj hinstr
    exact ⟨rfl, rfl, by decide +kernel, by decide +kernel⟩
  · obtain rfl : Instr.distInvalid31 = i := Option.some.inj hinstr
    exact ⟨rfl, rfl, by decide +kernel, by decide +kernel⟩

theorem place_distReserved {i : Instr} {n x : Nat} (hi : i.shape = .dist n x) (hn : 30 ≤ n) (g : Nat) : PlaceRoundTrip i g := by
  obtain ⟨h0, hx, hlen, hres⟩ := distReserved_fixed hi hn
  refine place_bare (A := .d) h0 hx hlen (by decide) (fun t w hl hw => decodeDist_of_reserved hl hn (by decide) ?_) g
  rw [hw]
  exact hres

/-! ### Elements of fixed width -/

/-- The low bits of an encoded element are the element, whatever bits follow it. -/
theorem setWidth_encoded {k : Nat} (hk : k ≤ 32) (v g : Nat) :
    (BitVec.ofNat 32 (v + 2 ^ k * g)).setWidth k = BitVec.ofNat k v := by
  apply BitVec.eq_of_toNat_eq
  rw [BitVec.toNat_setWidth, ofNat_mod_pow hk, Nat.add_mul_mod_self_left, BitVec.toNat_ofNat]

theorem decodeStoredLen_fields (len nlen : BitVec 16) :
    decodeStoredLen (BitVec.ofNat 32 (len.toNat + 2 ^ 16 * nlen.toNat)) = .storedLen len nlen := by
  have h1 := len.isLt
  have h2 := nlen.isLt
  rw [decodeStoredLen]
  congr 1 <;> apply BitVec.eq_of_toNat_eq <;> simp <;> omega

theorem decodeDynHdr_fields (hlit hdist : BitVec 5) (hclen : BitVec 4) :
    decodeDynHdr (BitVec.ofNat 14 (hlit.toNat + 2 ^ 5 * hdist.toNat + 2 ^ 10 * hclen.toNat)) = .dynHdr hlit hdist hclen := by
  have h1 := hlit.isLt
  have h2 := hdist.isLt
  have h3 := hclen.isLt
  rw [decodeDynHdr]
  congr 1 <;> apply BitVec.eq_of_toNat_eq <;> simp <;> omega

/-- An element that is one field of `k` bits (R92 to R95, R109). -/
theorem place_field {i : Instr} {slot : Slot} {v k : Nat} {f : BitVec k → Instr} (hslot : i.slot = slot)
    (henc : ∀ lens, encode lens i = (v, k)) (hk : k ≤ 32) (hdec : ∀ t w, decode slot t w = .ok (f (w.setWidth k), k))
    (hf : f (BitVec.ofNat k v) = i) (g : Nat) : PlaceRoundTrip i g := by
  rw [PlaceRoundTrip, hslot, henc, hdec, setWidth_encoded hk, hf]

/-- The pad of a stored block (R192). -/
theorem place_pad {n : BitVec 3} {p : BitVec 7} (hp : p.toNat < 2 ^ n.toNat) (g : Nat) : PlaceRoundTrip (.alignPad n p) g := by
  refine place_field (f := fun v => .alignPad n (BitVec.ofNat 7 v.toNat)) rfl (fun _ => rfl) (by omega) (fun t w => ?_) ?_ g
  · have hbits : bitsFrom w 0 n.toNat = (w.setWidth n.toNat).toNat := by
      rw [BitVec.toNat_setWidth, bitsFrom, Nat.pow_zero, Nat.div_one]
    exact congrArg (fun v => Except.ok (Instr.alignPad n (BitVec.ofNat 7 v), n.toNat)) hbits
  · rw [BitVec.toNat_ofNat, Nat.mod_eq_of_lt hp, BitVec.ofNat_toNat, BitVec.setWidth_eq]

/-- Settles O44: a field is read back from its bits, and a symbol by its code, the four without a meaning told by that code. -/
theorem decodeEncode : Obligations.DecodeEncode := by
  intro i g hwf
  have hinstr := instr_of_shape (i := i) rfl
  cases hs : i.shape <;> rw [hs] at hinstr
  case header b f =>
    exact place_field (by rw [Instr.slot, hs]) (fun _ => by rw [encode, hs]) (by decide) (fun _ _ => rfl) (Option.some.inj hinstr) g
  case pad n p =>
    cases hinstr
    exact place_pad (of_decide_eq_true hwf) g
  case storedLen len nlen =>
    cases hinstr
    have hdec (t : Table) (w : Acc) : decode .storedLen t w = .ok (decodeStoredLen (w.setWidth 32), 32) := by
      rw [BitVec.setWidth_eq]
      rfl
    exact place_field (slot := .storedLen) rfl (fun _ => rfl) (by decide) hdec (decodeStoredLen_fields len nlen) g
  case storedByte b =>
    cases hinstr
    exact place_field rfl (fun _ => rfl) (by decide) (fun _ _ => rfl) (by simp) g
  case dynHdr hlit hdist hclen =>
    cases hinstr
    exact place_field rfl (fun _ => rfl) (by decide) (fun _ _ => rfl) (decodeDynHdr_fields hlit hdist hclen) g
  case cll l =>
    cases hinstr
    exact place_field rfl (fun _ => rfl) (by decide) (fun _ _ => rfl) (by simp) g
  case cl n x => exact place_symbol (A := .cl) hs (clSymbol_lt hs) g
  case ll n x =>
    by_cases hn : n < 286
    · exact place_symbol (A := .ll) hs hn g
    · exact place_llReserved hs (Nat.not_lt.mp hn) g
  case dist n x =>
    by_cases hn : n < 30
    · exact place_symbol (A := .d) hs hn g
    · exact place_distReserved hs (Nat.not_lt.mp hn) g
  case command c =>
    exact place_field (by rw [Instr.slot, hs]) (fun _ => by rw [encode, hs]) (by decide) (fun _ _ => rfl) (Option.some.inj hinstr) g

end Sys2Proof.Machine
end
section
/-! PROOF. The code-length elements (R95, R96, R221 to R227): what each writes of `LENS`, and the ranges its fields are checked
for. -/

namespace Sys2Proof.Machine

/-! ### LENS -/

theorem setLen_eq {s : State} {i : Nat} (h : i < 320) (v : BitVec 4) : s.setLen i v = { s with lens := s.lens.set i v h } := by
  rw [State.setLen, Vector.setIfInBounds, Vector.set]
  simp [Array.setIfInBounds, h]

theorem getLen_setLen {s : State} {i : Nat} (h : i < 320) (v : BitVec 4) (j : Nat) :
    (s.setLen i v).getLen j = if j = i then v else s.getLen j := by
  rw [State.getLen, State.setLen, State.getLen, Vector.getElem?_setIfInBounds]
  by_cases hij : j = i
  · simp [hij, h]
  · rw [if_neg (Ne.symm hij), if_neg hij]

/-- A run of lengths written (R226). -/
theorem getLen_fillLens {s : State} {i n : Nat} (h : i + n ≤ 320) (v : BitVec 4) (j : Nat) :
    (s.fillLens i v n).getLen j = if i ≤ j ∧ j < i + n then v else s.getLen j := by
  induction n generalizing s i with
  | zero => rw [if_neg (by omega)]; rfl
  | succ n ih =>
    rw [State.fillLens, ih (by omega), getLen_setLen (by omega)]
    by_cases hj : j = i
    · rw [if_neg (by omega), if_pos hj, if_pos (by omega)]
    · rw [if_neg hj]
      exact if_congr (by omega) rfl rfl

/-! ### Elements -/

/-- Settles O20: the raw fields count from 257, 1 and 4, and the checks are of the counts (R94, R221). -/
theorem dynHdrFields : Obligations.DynHdrFields := by
  intro s hlit hdist hclen s1
  have h1 := toNat_hlitOf hlit
  have h2 := toNat_hdistOf hdist
  have hs1 : s1 = { s with loc := { s.loc with hlit := hlitOf hlit, hdist := hdistOf hdist, hclen := hclenOf hclen } } := by
    simp only [s1, ← h1, ← h2, ← toNat_hclenOf, BitVec.ofNat_toNat, BitVec.setWidth_eq]
  rw [hs1]
  exact ⟨fun h => if_neg (by omega), fun h => if_pos (by omega)⟩

theorem clOrder_lt : ∀ i < 19, clOrder.getD i 320 = clOrder.getD i 0 ∧ clOrder.getD i 0 < 320 := by decide

/-- Settles O21: the symbol in turn is one of the nineteen, and its length is written (R95, R222). -/
theorem cllWritesLength : Obligations.CllWritesLength := by
  intro s l k hi hk
  obtain ⟨hd, hlt⟩ := clOrder_lt s.loc.i.toNat hi
  obtain rfl : k = clOrder.getD s.loc.i.toNat 0 := hk
  refine ⟨hlt, ?_⟩
  show execCll l s = _
  rw [execCll, hd, setLen_eq hlt]

/-- Settles O23: a symbol below 16 is its own length (R224). -/
theorem codeLengthSymbol : Obligations.CodeLengthSymbol := by
  intro i n x s hi hn h
  rw [exec_of_shape hi, shapeMeaning, if_pos hn, codeLength, setLen_eq h]

/-- The run of a repeat symbol (R226, R227). -/
theorem exec_repeat {i : Instr} {n x : Nat} {s : State} (hi : i.shape = .cl n x) (h16 : ¬ n < 16) (h0 : n = 16 → s.loc.i ≠ 0) :
    exec i s = applyRepeat x (s.latchRepeat (BitVec.ofNat 5 n)) := by
  rw [exec_of_shape hi, shapeMeaning, if_neg h16, if_neg fun h => h0 h.1 h.2]

/-- A run within the total is written from `I` up (R226). -/
theorem applyRepeat_within {s : State} {sym : BitVec 5} {x cnt : Nat} (hcnt : repeatCount sym.toNat x = cnt)
    (h : s.loc.i.toNat + cnt ≤ s.lensTotal) (htot : s.lensTotal ≤ 320) :
    ∃ t, applyRepeat x (s.latchRepeat sym) = .next t ∧
      t = { s with
        lens := t.lens, fsm := .dynLensSym
        loc := { s.loc with repsym := sym, i := BitVec.ofNat 9 (s.loc.i.toNat + cnt) } } ∧
      ∀ j, t.getLen j = if s.loc.i.toNat ≤ j ∧ j < s.loc.i.toNat + cnt then
        (if sym = 16 then s.getLen (s.loc.i.toNat - 1) else 0) else s.getLen j := by
  subst hcnt
  refine ⟨_, if_neg (Nat.not_lt.mpr h), ?_, fun j => getLen_fillLens (s := s.latchRepeat sym) (h.trans htot) _ j⟩
  rw [fillLens_frame, BitVec.ofNat_add, BitVec.ofNat_toNat, BitVec.setWidth_eq]
  rfl

/-- Settles O24: a run the total admits is written from `I` up, and one past it is refused before anything is (R226, R227). -/
theorem repeatSymbols : Obligations.RepeatSymbols := by
  intro i n x cnt s hi hn
  have hcnt : repeatCount (BitVec.ofNat 5 n).toNat x = cnt := by
    rcases hn with ⟨rfl, rfl, -⟩ | ⟨rfl, rfl⟩ | ⟨rfl, rfl⟩ <;> rfl
  have hrep : (BitVec.ofNat 5 n = 16) ↔ n = 16 := by
    rcases hn with ⟨rfl, -⟩ | ⟨rfl, -⟩ | ⟨rfl, -⟩ <;> decide
  have hprev : n = 16 → s.loc.i ≠ 0 := fun h => by
    rcases hn with ⟨-, -, h0⟩ | ⟨rfl, -⟩ | ⟨rfl, -⟩
    · exact h0
    · exact absurd h (by decide)
    · exact absurd h (by decide)
  rw [exec_repeat hi (by omega) hprev]
  refine ⟨fun hfit htot => ?_, fun hpast => if_pos (hcnt ▸ hpast)⟩
  obtain ⟨t, ht, heq, hlens⟩ := applyRepeat_within hcnt hfit (by omega)
  refine ⟨t, ht, heq, fun j _ => ?_⟩
  simp only [hlens j, hrep]

end Sys2Proof.Machine
end
section
/-! PROOF. The symbols of a Huffman block by their numbers (R104 to R106, R110, R261 to R266, R302): a length with its field, a
match that has room, and the codes with no meaning. -/

namespace Sys2Proof.Machine

/-- A length with its extra field is 3 to 258 (R104, R106). -/
theorem length_range {i : Instr} {n x : Nat} (hi : i.shape = .ll n x) (h1 : 257 ≤ n) (h2 : n < 286) :
    3 ≤ lenBase.getD (n - 257) 0 + x ∧ lenBase.getD (n - 257) 0 + x ≤ 258 := by
  obtain ⟨hlow, hhigh, -⟩ := lenBase_range (n - 257) (by omega)
  have hx := extra_lt (A := .ll) hi
  rw [Alphabet.extra, if_neg (by omega)] at hx
  omega

/-- Settles O28: the latch keeps base and extra-bit count, and their sum with the field is the length (R106, R264). -/
theorem lengthSymbols : Obligations.LengthSymbols := by
  intro i n x s hi h1 h2
  refine ⟨?_, length_range hi h1 h2⟩
  have hbase := (lenExtra_lt (n - 257)).1
  rw [exec_of_shape hi, shapeMeaning, if_neg (by omega), if_neg (by omega), if_pos h2, lengthSymbol, finishLength,
    assembleLength_eq, State.latchLen_loc, BitVec.toNat_ofNat, Nat.mod_eq_of_lt hbase]
  rfl

/-- A distance with its extra field fits `DIST`, and is not 0 (R105, R106). -/
theorem distance_range {i : Instr} {n x : Nat} (hi : i.shape = .dist n x) (hn : n < 30) :
    x < 2 ^ 15 ∧ 1 ≤ distBase.getD n 0 + x ∧
      (assembleDist (BitVec.ofNat 15 (distBase.getD n 0)) x).toNat = distBase.getD n 0 + x := by
  obtain ⟨hlow, -, hbase⟩ := distBase_range n hn
  have hx : x < 2 ^ 15 := (extra_lt (A := .d) hi).trans_le
    (Nat.pow_le_pow_right (by decide) ((Alphabet.extra_le .d hn).trans (by decide)))
  exact ⟨hx, by omega, by rw [toNat_assembleDist hx, BitVec.toNat_ofNat, Nat.mod_eq_of_lt hbase]⟩

/-- The state a copy of a distance symbol begins in (R265, R266). -/
def State.beginCopy (s : State) (n d : Nat) : State :=
  { s with
    loc := { s.loc with
      dbase := BitVec.ofNat 15 (distBase.getD n 0), dnx := BitVec.ofNat 4 (distExtra.getD n 0),
      dist := BitVec.ofNat 16 d, rem := BitVec.ofNat 16 s.loc.length.toNat },
    fsm := .copy }

/-- A distance inside the history begins the copy (R266). -/
theorem exec_distance {i : Instr} {n x d : Nat} {s : State} (hi : i.shape = .dist n x) (hn : n < 30)
    (hd : d = distBase.getD n 0 + x) (hle : d ≤ s.win.hfill.toNat) : exec i s = copyRun (s.beginCopy n d) := by
  obtain ⟨-, hpos, hsum⟩ := distance_range hi hn
  rw [exec_of_shape hi, shapeMeaning, if_pos hn, distSymbol]
  exact finishDist_near (t := s.latchDist _ _) (hsum.trans hd.symm) (by omega) hle

/-- A copy with room for all its bytes (R302). -/
theorem copyRun_completes {s : State} (h : s.Room s.loc.rem.toNat) :
    copyRun s = .next { copiedTimes s.loc.rem.toNat s with fsm := .llSym } := copyLoop_completes _ s h.1 h.2

/-- The bytes of a copy, read back from the output (R302). -/
theorem copiedTimes_read_copy {s : State} (hm : s.MemOk) (hd : s.loc.dist.toNat ≤ 32768) {n k : Nat} (hk : k < n) :
    (copiedTimes n s).mem.read (s.port.dstPtr + k) =
      if k < s.loc.dist.toNat then s.win.histAt (s.loc.dist.toNat - k)
      else (copiedTimes n s).mem.read (s.port.dstPtr + k - s.loc.dist.toNat) := by
  rw [copiedTimes_read n hm, copiedTimes_read n hm, if_pos (by omega), Nat.add_sub_cancel_left, copyByte_eq k hd]
  refine ite_both .rfl (fun _ => rfl) fun hge => ?_
  rw [if_pos (by omega)]
  exact congrArg (copyByte s) (by omega)

/-- Settles O30: the symbol begins the copy, which has room and completes, each byte the byte DIST before it (R266, R302). -/
theorem distanceSymbols : Obligations.DistanceSymbols := by
  intro i n x d s hi hn hd hle hfill hm hroom
  have hlen : s.loc.length.toNat < 2 ^ 9 := s.loc.length.isLt
  have hrem : (s.beginCopy n d).loc.rem.toNat = s.loc.length.toNat := Nat.mod_eq_of_lt (by omega)
  have hdist : (s.beginCopy n d).loc.dist.toNat = d := Nat.mod_eq_of_lt (by omega)
  refine ⟨_, (exec_distance hi hn hd hle).trans (copyRun_completes (by rw [hrem]; exact hroom)), ?_, ?_, ?_, fun k hk => ?_,
    fun a ha => ?_⟩
  · rw [copiedTimes_frame, hrem]
    simp [State.beginCopy]
  · rw [hrem]
    exact copiedTimes_hidx _ _
  · rw [hrem]
    exact copiedTimes_hfill _ hfill
  · rw [hrem]
    have := copiedTimes_read_copy (s := s.beginCopy n d) hm (by omega) hk
    rwa [hdist] at this
  · rw [hrem]
    have hout : ¬ (s.port.dstPtr ≤ a ∧ a < s.port.dstPtr + s.loc.length.toNat) := by omega
    exact (copiedTimes_read _ (s := s.beginCopy n d) hm a).trans (if_neg hout)

/-- Settles O29: a reserved symbol's one effect is the error, and so is any INVALID entry's (R110, R261, R265). -/
theorem reservedSymbols : Obligations.ReservedSymbols := by
  refine ⟨fun i s hi => ?_, fun s t tab y hs hfast htab hsym hk => ?_⟩
  · rcases hi with rfl | rfl | rfl | rfl <;> rfl
  · rw [step_eq_run hs hfast]
    rcases htab with ⟨hf, rfl⟩ | ⟨hf, rfl⟩
    · simp only [fetchElement, hf]
      rw [run_fetchLL, hsym, Res.run, llRest, hk]
      rfl
    · simp only [fetchElement, hf]
      rw [run_fetchDist, hsym, Res.run, distRest, hk]
      rfl

end Sys2Proof.Machine
end
section
/-! PROOF. The step, and the elements that begin a block (R90, R109, R141, R190 to R197, R341). -/

namespace Sys2Proof.Machine

/-- Settles O8: a step that owes no report runs what it has fetched, and the fetch of an engine outside DECODE's loop is CMD's
command (R109, R330). -/
theorem stepRunsFetched : Obligations.StepRunsFetched := by
  intro s hb hi
  refine ⟨fun i t => step_of_instr hb hi, fun o => step_of_engine hb hi, fun hd => ?_⟩
  have hcmd : step s = exec (decodeCommand s.port.cmd) s := step_of_instr hb hi (by rw [fetch, if_neg (by simp [hd])])
  refine ⟨hcmd, fun h => ?_, fun h => ?_, fun h => ?_, fun h => ?_⟩ <;> rw [hcmd, h] <;> rfl

theorem alignToStored_of_small {s : State} (h : s.AccOk) (hn : s.nbits.toNat < 8) :
    alignToStored s = .next { s with bits := 0, nbits := 0, fsm := .storedLen } := align_of_small h hn

/-- `Align`'s internal check (R141, R192). -/
theorem alignToStored_of_held {s : State} (h : 8 ≤ s.nbits.toNat ∨ s.bits >>> s.nbits.toNat ≠ 0) :
    alignToStored s = .next (s.raise .internalBitCount) := if_pos h

/-- Settles O13: the flags are latched, and a stored block goes on through `Align` (R141, R190, R192). -/
theorem blockHeaders : Obligations.BlockHeaders := by
  intro s f n p
  refine ⟨fun hacc hn => ⟨?_, ?_⟩, fun h => ⟨?_, ?_⟩, rfl, rfl, rfl⟩
  · exact alignToStored_of_small (s := s.latchHeader 0 f) hacc hn
  · exact alignToStored_of_small hacc hn
  · exact alignToStored_of_held (s := s.latchHeader 0 f) h
  · exact alignToStored_of_held h

/-- Settles O14: NLEN is LEN's complement exactly where the two differ in every bit (R193). -/
theorem storedLenChecks : Obligations.StoredLenChecks := by
  intro s len nlen
  have hcomp : len ^^^ nlen = 0xFFFF ↔ nlen = len ^^^ 0xFFFF := by
    constructor
    · intro h
      rw [← h, ← BitVec.xor_assoc, BitVec.xor_self, BitVec.zero_xor]
    · rintro rfl
      rw [← BitVec.xor_assoc, BitVec.xor_self, BitVec.zero_xor]
  exact ⟨fun h => if_neg (not_not_intro (hcomp.mpr h)), fun h => if_pos (mt hcomp.mp h)⟩

/-- Both fixed codes build in every configuration (R102, R197). -/
theorem fixedInit_eq (s : State) :
    fixedInit s = .next { s with lens := fixedLens, tab0 := tableOf .ll fixedLL, tab1 := tableOf .d fixedD, fsm := .llSym } := by
  obtain ⟨hll, -⟩ := lensFrom_fixedLens { s with lens := fixedLens } rfl
  obtain ⟨-, hd⟩ := lensFrom_fixedLens { s with lens := fixedLens, tab0 := tableOf .ll fixedLL } rfl
  simp only [fixedInit, buildTab0, buildTab1, hll, hd, build_fixedLL, build_fixedD]

/-- Settles O17: the pass of FIXED_INIT is its two builds (R197). -/
theorem fixedInitBuilds : Obligations.FixedInitBuilds := by
  intro s hs hf
  rw [step_of_notLLSym hs (by rw [hf]; decide), fetchElement, hf]
  exact fixedInit_eq s

end Sys2Proof.Machine
end
section
/-! PROOF. A read past the input (R131, R134, R140): each refill but the last moves a byte in, the last finds none, and nothing is
taken. -/

namespace Sys2Proof.Machine

/-! ### The drained state -/

/-- With the input used up, the accumulator holds all of the stream. -/
theorem stream_at_end {s : State} (hend : s.port.srcPtr = s.port.srcEnd) :
    s.streamValue = s.bits.toNat ∧ s.streamLen = s.nbits.toNat := by
  rw [State.streamValue, State.streamLen, hend, Nat.sub_self, inputValue]
  exact ⟨rfl, rfl⟩

/-- Where the input is used up, and the first `k` bits are taken, the state is the drained one. -/
theorem BitFrame.eq_drained {s t : State} {k : Nat} (h : BitFrame s t) (hend : t.port.srcPtr = t.port.srcEnd)
    (hvalue : t.streamValue = s.streamValue / 2 ^ k) (hlen : t.streamLen = s.streamLen - k) : t = s.drained k := by
  obtain ⟨hv, hl⟩ := stream_at_end hend
  have hsame := h.same
  rw [hend.trans h.still.srcEnd] at hsame
  rw [State.drained, ← hvalue, ← hlen, hv, hl, BitVec.ofNat_toNat, BitVec.ofNat_toNat, BitVec.setWidth_eq, BitVec.setWidth_eq]
  exact hsame

theorem Fills.eq_drained {s t : State} (h : Fills s t) (hend : t.port.srcPtr = t.port.srcEnd) : t = s.drained 0 :=
  h.frame.eq_drained hend (by rw [Nat.pow_zero, Nat.div_one, h.value]) h.len

/-- Draining what is left of a stream. -/
theorem Taken.drained {s t : State} {L : Nat} (h : Taken s L t) (k : Nat) : t.drained k = s.drained (L + k) := by
  rw [State.drained, h.value, h.len, Nat.div_div_eq_div_mul, ← Nat.pow_add, Nat.sub_sub, h.frame.same]
  rfl

/-! ### Reads that run out -/

theorem Fills.nbits_le {s t : State} (h : Fills s t) : t.nbits.toNat ≤ s.streamLen := by
  rw [← h.len, State.streamLen]
  exact Nat.le_add_right _ _

/-- At the end of the input a refill ends the command (R131, R140). -/
theorem refill_at_end {s : State} (hn : s.nbits.toNat ≤ 24) (hend : s.port.srcPtr = s.port.srcEnd) :
    refill s = .stop (.next s.inputExhausted) := by
  rw [refill, if_neg (Nat.not_lt.mpr hn), if_pos hend]

/-- A read that never finds enough in a stream of at most 24 bits ends with all of them held. -/
theorem ReadsTo.runs_out {α : Type} {found : State → Option (Res α)} {s : State} {r : Res α} (h : ReadsTo found s r)
    (hs : Readable s) (h24 : s.streamLen ≤ 24) (hnone : ∀ t, Fills s t → found t = none) :
    ∃ t, Fills s t ∧ t.port.srcPtr = t.port.srcEnd ∧ r = .stop (.next t.inputExhausted) := by
  have hgo {s : State} (hs : Readable s) (h24 : s.streamLen ≤ 24) :
      s.port.srcPtr = s.port.srcEnd ∧ refill s = .stop (.next s.inputExhausted) ∨
      refill s = .val () s.refilled ∧ Fills s s.refilled := by
    have hord := hs.order
    rw [State.streamLen] at h24
    by_cases hend : s.port.srcPtr = s.port.srcEnd
    · exact .inl ⟨hend, refill_at_end (by omega) hend⟩
    · exact .inr (refill_fills hs (by omega) (by rw [State.streamLen]; omega))
  induction h with
  | @done s r h => exact nomatch h.symm.trans (hnone s (.refl s))
  | @stop s o _ hr =>
    rcases hgo hs h24 with ⟨hend, hx⟩ | ⟨hx, -⟩
    · exact ⟨s, .refl s, hend, congrArg Res.stop (Res.stop.inj (hr.symm.trans hx))⟩
    · exact nomatch hr.symm.trans hx
  | @more s t r _ hr _ ih =>
    rcases hgo hs h24 with ⟨-, hx⟩ | ⟨hx, hf⟩
    · exact nomatch hr.symm.trans hx
    · obtain ⟨-, rfl⟩ := Res.val.inj (hx.symm.trans hr)
      obtain ⟨u, hu, hend, hru⟩ := ih (hs.after hf.frame) (hf.len ▸ h24) fun v hv => hnone v (hf.trans hv)
      exact ⟨u, hf.trans hu, hend, hru⟩

/-- A stream that ends inside a field the engine reads leaves room in the accumulator (R93, R135). -/
theorem streamLen_le_of_short {s : State} {n : Nat} (h : s.streamLen < n) (h25 : n ≤ 25 ∨ n ≤ 32 ∧ s.nbits.toNat % 8 = 0) :
    s.streamLen ≤ 24 := by
  rw [State.streamLen] at h ⊢
  omega

theorem take_runs_out {n : Nat} {s : State} (hs : Readable s) (h : s.streamLen < n)
    (h25 : n ≤ 25 ∨ n ≤ 32 ∧ s.nbits.toNat % 8 = 0) :
    ∃ t, Fills s t ∧ t.port.srcPtr = t.port.srcEnd ∧ take n s = .stop (.next t.inputExhausted) :=
  (take_readsTo (by omega) s).runs_out hs (streamLen_le_of_short h h25) fun _ ht => if_pos (ht.nbits_le.trans_lt h)

theorem take_short {n : Nat} {s : State} (hs : Readable s) (h : s.streamLen < n)
    (h25 : n ≤ 25 ∨ n ≤ 32 ∧ s.nbits.toNat % 8 = 0) : take n s = .stop (.next (s.drained 0).inputExhausted) := by
  obtain ⟨t, ht, hend, hr⟩ := take_runs_out hs h h25
  rw [hr, ht.eq_drained hend]

/-- Settles O38: the last refill finds no byte, and all that came before it are held. -/
theorem shortTakeKeepsBits : Obligations.ShortTakeKeepsBits := by
  intro s n hacc hcur hspace hlt h25
  obtain ⟨t, ht, hend, hr⟩ := take_runs_out ⟨hacc, hcur.1, hspace⟩ hlt h25
  have hsame := ht.frame.same
  rw [hend.trans ht.frame.still.srcEnd] at hsame
  obtain ⟨hv, hl⟩ := stream_at_end hend
  refine ⟨t, ?_, hv.symm.trans ht.value, hl.symm.trans ht.len, hsame⟩
  rw [hr, State.inputExhausted, ht.frame.still.par, ht.frame.still.port]

end Sys2Proof.Machine
end
section
/-! PROOF. `DecodeSym` on any stream and any built table (R160 to R164): a code its bits begin with is some symbol's own code, and
where they begin with none, or end inside one, the lookup tells. -/

namespace Sys2Proof.Machine

/-! ### The symbol a code stands for -/

theorem nodup_symbolsOf (lens : List Nat) (L : Nat) : (symbolsOf lens L).Nodup := by
  have hsub : (symbolsOf lens L).Sublist (lens.zipIdx.map (·.2)) := List.filter_sublist.map _
  exact (List.nodup_zipIdx_map_snd lens).sublist hsub

/-- The symbol a code stands for has that code (R157). -/
theorem codeOf_symbolOf {lens : List Nat} {L c y : Nat} (h : symbolOf? lens L c = some y) :
    lens.getD y 0 = L ∧ codeOf lens y = c := by
  unfold symbolOf? at h
  split at h
  next hle =>
    have hget : lens[y]? = some L := by
      obtain ⟨⟨M, z⟩, hp, rfl⟩ := List.mem_map.mp (List.mem_of_getElem? h)
      obtain ⟨hz, hM⟩ := List.mem_filter.mp hp
      obtain rfl : M = L := of_decide_eq_true hM
      exact List.mem_zipIdx_iff_getElem?.mp hz
    have hlen : lens.getD y 0 = L := by rw [List.getD_eq_getElem?_getD, hget]; rfl
    have hidx : (symbolsOf lens L)[(lens.take y).count L]? = some y := by
      rw [symbolsOf, getElem?_symbols hget 0, Nat.zero_add]
    have heq : c - firstCode lens L = (lens.take y).count L :=
      (List.getElem?_inj (List.getElem?_eq_some_iff.mp h).1 (nodup_symbolsOf lens L)).mp (h.trans hidx.symm)
    exact ⟨hlen, by rw [codeOf, hlen]; omega⟩
  next => cases h

/-- Bits that are found to begin with a code begin with a symbol's own. -/
theorem begins_of_codeIn {lens : List Nat} {r L y : Nat} (h : codeIn lens r (shortLengths ++ longLengths) = some (L, y)) :
    lens.getD y 0 ≠ 0 ∧ r % 2 ^ lens.getD y 0 = revBits (lens.getD y 0) (codeOf lens y) := by
  obtain ⟨hL, hat⟩ := codeIn_some h
  obtain ⟨rfl, hcode⟩ := codeOf_symbolOf hat
  rw [lengths_eq, List.mem_range'_1] at hL
  refine ⟨by omega, ?_⟩
  rw [hcode, revBits_revBits, Nat.mod_mod]

/-- In a built table, bits that begin with no symbol's code select INVALID, for one bit (R160). -/
theorem lookup_of_noCode {p : Params} {A : Alphabet} {lens : List Nat} {t : Table} (h : BuiltFrom p A lens t) {w : Acc}
    (hno : ∀ y, ¬ (lens.getD y 0 ≠ 0 ∧ w.toNat % 2 ^ lens.getD y 0 = revBits (lens.getD y 0) (codeOf lens y))) :
    lookup t w = (packEntry 0x08 0 0 1, 1) := by
  rw [lookup_of_built h]
  cases hc : codeIn lens w.toNat (shortLengths ++ longLengths) with
  | none => rfl
  | some p => exact absurd (begins_of_codeIn hc) (hno p.2)

/-! ### A code that is not whole -/

/-- A stream that ends inside its code is drained, and none of it is taken (R131, R134, R163). -/
theorem decodeSym_short {tab : Table} (htab : SelfDelimiting tab) {s : State} (hs : Readable s) {w : Acc}
    (hw : w = BitVec.ofNat 32 s.streamValue) (hlt : s.streamLen < (lookup tab w).2) :
    decodeSym tab s = .stop (.next (s.drained 0).inputExhausted) := by
  have h15 := htab.short w
  obtain ⟨t, ht, hend, hr⟩ := (decodeSym_readsTo tab s).runs_out hs (by omega) fun t ht => by
    rw [symFound, if_neg (htab.total _), if_neg fun hle => ?_]
    have hlook : lookup tab w = lookup tab t.bits := htab.pref _ _ (by
      rw [hw, ofNat_mod_pow ((htab.short _).trans (by decide)), ← ht.value, bits_mod_eq hle])
    have := ht.nbits_le
    rw [hlook] at hlt
    omega
  rw [hr, ht.eq_drained hend]

/-- `DecodeSym` on a stream that begins with a whole code of symbol `y` (R163, R167). -/
theorem decodeSym_of_code {p : Params} {A : Alphabet} {lens : List Nat} {tab : Table} (hbuilt : BuiltFrom p A lens tab)
    {s : State} (hs : Readable s) {y : Nat} (h0 : lens.getD y 0 ≠ 0)
    (hy : s.streamValue % 2 ^ lens.getD y 0 = revBits (lens.getD y 0) (codeOf lens y)) (hle : lens.getD y 0 ≤ s.streamLen) :
    ∃ t, decodeSym tab s =
        .val
          { entry := makeEntry A y (if lens.getD y 0 ≤ 9 then lens.getD y 0 else lens.getD y 0 - 9), len := lens.getD y 0,
            code := revBits (lens.getD y 0) (codeOf lens y) } t ∧
      Taken s (lens.getD y 0) t := by
  have h15 := LensOk.getD_le hbuilt.1 y
  have hw : (BitVec.ofNat 32 s.streamValue).toNat % 2 ^ lens.getD y 0 = revBits (lens.getD y 0) (codeOf lens y) := by
    rw [ofNat_mod_pow (by omega), hy]
  have hl := lookup_of_code hbuilt h0 hw
  obtain ⟨t, ht, htaken⟩ := decodeSym_stream (selfDelimiting_of_built hbuilt) hs rfl (by rw [hl]; exact hle)
  rw [hl] at ht htaken
  dsimp only at ht htaken
  rw [hw] at ht
  exact ⟨t, ht, htaken⟩

/-- Settles O42: the lookup finds the symbol whose code the stream begins with, or INVALID, and what it needs is in the stream or
not. -/
theorem decodeSymReadsStream : Obligations.DecodeSymReadsStream := by
  intro p A lens tab s hbuilt hacc hcur hspace begins leaves
  have hs : Readable s := ⟨hacc, hcur.1, hspace⟩
  have htab := selfDelimiting_of_built hbuilt
  have hleaves {L : Nat} {t : State} (h : Taken s L t) : leaves L t := ⟨h.value, h.len, h.small, h.frame.same⟩
  refine ⟨fun y ⟨h0, hy⟩ hle => ?_, fun hno hle => ?_, fun hlt => decodeSym_short htab hs rfl hlt⟩
  · obtain ⟨t, ht, htaken⟩ := decodeSym_of_code hbuilt hs h0 hy hle
    exact ⟨t, ht, hleaves htaken⟩
  · have hl : lookup tab (BitVec.ofNat 32 s.streamValue) = (packEntry 0x08 0 0 1, 1) := by
      refine lookup_of_noCode hbuilt fun y ⟨h0, hy⟩ => hno y ⟨h0, ?_⟩
      rwa [ofNat_mod_pow ((LensOk.getD_le hbuilt.1 y).trans (by decide))] at hy
    obtain ⟨t, ht, htaken⟩ := decodeSym_stream htab hs rfl (by rw [hl]; exact hle)
    rw [hl] at ht htaken
    rw [ofNat_mod_pow (by decide)] at ht
    exact ⟨t, ht, hleaves htaken⟩

end Sys2Proof.Machine
end
section
/-! PROOF. A pass whose stream ends inside its element (R131, R134, R140, R163): inside a fixed field or a code nothing is taken; inside
the extra field of a symbol the code is, and the symbol stays latched (R224, R261, R265). -/

namespace Sys2Proof.Machine

/-! ### What a pass awaits -/

/-- How a pass goes on behind a decoded symbol (R224, R261, R265). -/
def Alphabet.rest : Alphabet → Symbol → State → Result
  | .cl => clRest
  | .ll => llRest
  | .d => distRest

/-- A symbol's code needs what the lookup says (R162). -/
theorem slotNeeds_symbol {slot : Slot} {A : Alphabet} (hA : slotAlphabet slot = some A) (tab : Table) (w : Acc) :
    slotNeeds slot tab w = (lookup tab w).2 := by
  cases slot with
  | cl | ll | dist => rfl
  | _ => cases hA

/-- A field leaves room for the byte that completes it, and so does a length word read from whole bytes (R93, R135). -/
theorem slotNeeds_field {slot : Slot} (hA : slotAlphabet slot = none) (tab : Table) (w : Acc) :
    slotNeeds slot tab w ≤ 25 ∨ slot = .storedLen ∧ slotNeeds slot tab w = 32 := by
  cases slot with
  | storedLen => exact .inr ⟨rfl, rfl⟩
  | cl | ll | dist => cases hA
  | _ => exact .inl (Nat.le_of_ble_eq_true rfl)

/-- What a pass awaits is a field of the width it reads, or a symbol it decodes (R90). -/
theorem read_of_awaits {s : State} {slot : Slot} {tab : Table} (h : s.awaits = some (slot, tab)) :
    (slotAlphabet slot = none ∧ ∀ w, ∃ k, fieldRead s = some (slotNeeds slot tab w, k)) ∨
    ∃ A, slotAlphabet slot = some A ∧ symbolRead s = some (tab, A.rest) := by
  have hfield {f : Fsm} (hf : s.fsm = f) : fieldRead s = fieldRead { s with fsm := f } := by rw [← hf]
  have hsymbol {f : Fsm} (hf : s.fsm = f) : symbolRead s = symbolRead { s with fsm := f } := by rw [← hf]
  unfold State.awaits at h
  split at h
  next hf => cases h; exact .inl ⟨rfl, fun _ => ⟨_, hfield hf⟩⟩
  next hf => cases h; exact .inl ⟨rfl, fun _ => ⟨_, hfield hf⟩⟩
  next hf => cases h; exact .inl ⟨rfl, fun _ => ⟨_, hfield hf⟩⟩
  next hf =>
    split at h
    next hi => cases h; exact .inl ⟨rfl, fun _ => ⟨_, (hfield hf).trans (if_pos hi)⟩⟩
    next => cases h
  next hf =>
    split at h
    next => cases h
    next hi => cases h; exact .inr ⟨.cl, rfl, (hsymbol hf).trans (if_neg hi)⟩
  next hf => cases h; exact .inr ⟨.ll, rfl, hsymbol hf⟩
  next hf => cases h; exact .inr ⟨.d, rfl, hsymbol hf⟩
  next => cases h

theorem symbolRead_of_awaits {s : State} {slot : Slot} {tab : Table} {A : Alphabet} (h : s.awaits = some (slot, tab))
    (hA : slotAlphabet slot = some A) : symbolRead s = some (tab, A.rest) := by
  rcases read_of_awaits h with ⟨hno, -⟩ | ⟨B, hB, hread⟩
  · exact nomatch hno.symm.trans hA
  · rwa [← Option.some.inj (hB.symm.trans hA)]

/-! ### The fields of an entry -/

theorem makeEntry_length {m nb : Nat} (h1 : 257 ≤ m) (h2 : m < 286) (hb : nb < 16) :
    entryKind (makeEntry .ll m nb) = .base ∧ (entryPayload (makeEntry .ll m nb)).toNat = lenBase.getD (m - 257) 0 ∧
      (entryNX (makeEntry .ll m nb)).toNat = lenExtra.getD (m - 257) 0 := by
  obtain ⟨hbase, hextra⟩ := lenExtra_lt (m - 257)
  rw [makeEntry, if_neg (by omega), if_neg (by omega), if_pos h2]
  exact ⟨entryKind_pack (by decide) (by omega) (by omega) hb, entryPayload_pack (by decide) (by omega) (by omega) hb,
    entryNX_pack (by decide) (by omega) (by omega) hb⟩

theorem makeEntry_distance {m nb : Nat} (hm : m < 30) (hb : nb < 16) :
    entryKind (makeEntry .d m nb) = .base ∧ (entryPayload (makeEntry .d m nb)).toNat = distBase.getD m 0 ∧
      (entryNX (makeEntry .d m nb)).toNat = distExtra.getD m 0 := by
  obtain ⟨hbase, hextra⟩ := distExtra_lt m
  rw [makeEntry, if_pos hm]
  exact ⟨entryKind_pack (by decide) (by omega) (by omega) hb, entryPayload_pack (by decide) (by omega) (by omega) hb,
    entryNX_pack (by decide) (by omega) (by omega) hb⟩

theorem makeEntry_codeLength {m nb : Nat} (hm : m < 19) (hb : nb < 16) :
    entryKind (makeEntry .cl m nb) = .lit ∧ (entryPayload (makeEntry .cl m nb)).toNat = m :=
  ⟨entryKind_pack (by decide) (by omega) (by decide) hb, entryPayload_pack (by decide) (by omega) (by decide) hb⟩

/-! ### A symbol latched -/

/-- An extra field that the stream ends inside: the code is taken and the latch stands. -/
theorem run_latch_short {s t : State} {L n : Nat} (hs : Readable s) (ht : Taken s L t) (h : s.streamLen < L + n) (hn : n ≤ 25)
    (g : Locals → Locals) (q : Fsm) (k : Acc → State → Result) :
    (take n (t.latch g q)).run k = .next ((s.drained L).latch g q).inputExhausted := by
  have hle := ht.le
  have hlen := ht.len
  have hrt := hs.after ht.frame
  have hshort := take_short (n := n) (s := t.latch g q) ⟨hrt.acc, hrt.order, hrt.space⟩
    (show t.streamLen < n by omega) (.inl hn)
  rw [hshort, show (t.latch g q).drained 0 = (t.drained 0).latch g q from rfl, ht.drained, Nat.add_zero]
  rfl

theorem llRest_short {s t : State} {L m nb c : Nat} (hs : Readable s) (ht : Taken s L t) (h1 : 257 ≤ m) (h2 : m < 286)
    (hb : nb < 16) (h : s.streamLen < L + lenExtra.getD (m - 257) 0) :
    llRest ⟨makeEntry .ll m nb, L, c⟩ t = .next
      ((s.drained L).latchLen (BitVec.ofNat 9 (lenBase.getD (m - 257) 0))
        (BitVec.ofNat 3 (lenExtra.getD (m - 257) 0))).inputExhausted := by
  obtain ⟨hkind, hbase, hextra⟩ := makeEntry_length h1 h2 hb
  have h8 := (lenExtra_lt (m - 257)).2
  have hwidth : ((entryNX (makeEntry .ll m nb)).setWidth 3).toNat = lenExtra.getD (m - 257) 0 := by
    rw [BitVec.toNat_setWidth, hextra, Nat.mod_eq_of_lt h8]
  rw [← hbase, ← hextra, BitVec.ofNat_toNat, BitVec.ofNat_toNat, llRest, hkind]
  exact run_latch_short hs ht (hwidth ▸ h) (by omega) (fun l => { l with lbase := _, lnx := _ }) .lenExtra _

theorem distRest_short {s t : State} {L m nb c : Nat} (hs : Readable s) (ht : Taken s L t) (hm : m < 30)
    (hb : nb < 16) (h : s.streamLen < L + distExtra.getD m 0) :
    distRest ⟨makeEntry .d m nb, L, c⟩ t = .next
      ((s.drained L).latchDist (BitVec.ofNat 15 (distBase.getD m 0)) (BitVec.ofNat 4 (distExtra.getD m 0))).inputExhausted := by
  obtain ⟨hkind, hbase, hextra⟩ := makeEntry_distance hm hb
  have h16 := (distExtra_lt m).2
  rw [← hbase, ← hextra, BitVec.ofNat_toNat, BitVec.ofNat_toNat, BitVec.setWidth_eq, distRest, hkind]
  exact run_latch_short hs ht (hextra ▸ h) (by omega) (fun l => { l with dbase := _, dnx := _ }) .distExtra _

theorem clRest_short {s t : State} {L m nb c : Nat} (hs : Readable s) (ht : Taken s L t) (h16 : 16 ≤ m) (h18 : m ≤ 18)
    (hprev : m = 16 → s.loc.i ≠ 0) (hb : nb < 16) (h : s.streamLen < L + repeatExtra m) :
    clRest ⟨makeEntry .cl m nb, L, c⟩ t = .next ((s.drained L).latchRepeat (BitVec.ofNat 5 m)).inputExhausted := by
  obtain ⟨hkind, hpay⟩ := makeEntry_codeLength (m := m) (by omega) hb
  have h7 := repeatExtra_le m
  have hprev' : ¬ (m = 16 ∧ t.loc.i = 0) := by
    rw [ht.frame.same]
    exact fun ⟨hm, h0⟩ => hprev hm h0
  rw [clRest]
  dsimp only
  rw [hpay, if_neg (not_not_intro hkind), if_neg (by omega), if_neg hprev']
  exact run_latch_short hs ht h (by omega) (fun l => { l with repsym := _ }) .dynLensExtra _

/-- Settles O12: the pass ends inside its field, inside its code, or behind its latch. -/
theorem shortElements : Obligations.ShortElements := by
  intro s slot tab hreads ended
  obtain ⟨hd, hfast, hawaits, hacc, hcur, hspace, halign, htab⟩ := hreads
  have hs : Readable s := ⟨hacc, hcur.1, hspace⟩
  have hstep := step_eq_run hd hfast
  refine ⟨fun hlt => ?_, fun A lens m L hA hbuilt hL h0 hle hcode => ?_⟩
  · rcases read_of_awaits hawaits with ⟨hA, hfield⟩ | ⟨A, hA, hread⟩
    · obtain ⟨k, hread⟩ := hfield (BitVec.ofNat 32 s.streamValue)
      have h25 := (slotNeeds_field hA tab (BitVec.ofNat 32 s.streamValue)).imp_right fun ⟨hslot, h32⟩ =>
        And.intro h32.le (halign hslot)
      rw [hstep, (fieldRead_spec hread).2, take_short hs hlt h25]
      rfl
    · obtain ⟨lens, hbuilt⟩ := htab A hA
      rw [slotNeeds_symbol hA] at hlt
      rw [hstep, symbolRead_spec hread, decodeSym_short (selfDelimiting_of_built hbuilt) hs rfl hlt]
      rfl
  · subst hL
    obtain ⟨t, hsym, ht⟩ := decodeSym_of_code hbuilt hs h0 hcode hle
    have h15 := LensOk.getD_le hbuilt.1 m
    have hb : (if lens.getD m 0 ≤ 9 then lens.getD m 0 else lens.getD m 0 - 9) < 16 := by split <;> omega
    rw [hstep, symbolRead_spec (symbolRead_of_awaits hawaits hA), hsym]
    refine ⟨fun hslot h16 h18 hprev hlt => ?_, fun hslot h1 h2 hlt => ?_, fun hslot hm hlt => ?_⟩ <;> subst hslot <;> cases hA
    · exact clRest_short hs ht h16 h18 hprev hb hlt
    · exact llRest_short hs ht h1 h2 hb hlt
    · exact distRest_short hs ht hm hb hlt

end Sys2Proof.Machine
end
section
/-! PROOF. The fast variant (R138, R270): the pass reads the same element from the same stream, whatever part of it is held, and the
whole bytes given back are those it read ahead. -/

namespace Sys2Proof.Machine

/-! ### Reading ahead and giving back -/

theorem Readable.readAheadLoop_fills {s : State} (hs : Readable s) (k : Nat) : Fills s (readAheadLoop k s) := by
  induction k generalizing s with
  | zero => exact .refl s
  | succ k ih =>
    rw [readAheadLoop]
    split
    next h =>
      obtain ⟨hn, hlt, -⟩ := h
      have hf := (refill_fills hs hn (by rw [State.streamLen]; omega)).2
      exact hf.trans (ih (hs.after hf.frame))
    next => exact .refl s

/-- States that have read to the same place of one stream, one of them no whole byte ahead, are the same once the other has given
its whole bytes back (R138). -/
theorem Taken.giveBack_eq {s t t' u : State} {n : Nat} (hs : Readable s) (ht' : Fills s t') (ht : Taken t' n t) (hu : Taken s n u)
    (h7 : u.nbits.toNat ≤ 7) : t.giveBack = u := by
  have hframe := ht'.frame.trans ht.frame
  have htord := hframe.inside hs.order
  have huord := hu.frame.inside hs.order
  have hvalue : t.streamValue = u.streamValue := by rw [ht.value, hu.value, ht'.value]
  have hlen : t.streamLen = u.streamLen := by rw [ht.len, hu.len, ht'.len]
  rw [State.streamLen, State.streamLen, hframe.still.srcEnd, hu.frame.still.srcEnd] at hlen
  have hrest : t.nbits.toNat - 8 * (t.nbits.toNat / 8) = u.nbits.toNat := by omega
  have hsrc : t.port.srcPtr - t.nbits.toNat / 8 = u.port.srcPtr := by omega
  have hbits : t.bits &&& BitVec.ofNat 32 (2 ^ u.nbits.toNat - 1) = u.bits := by
    refine BitVec.eq_of_toNat_eq ?_
    rw [toNat_and_mask, bits_mod_eq (by omega), hvalue, ← bits_mod_eq (Nat.le_refl _),
      Nat.mod_eq_of_lt (hu.frame.acc hs.acc).1]
  rw [State.giveBack]
  dsimp only
  rw [hrest, hsrc, hbits, BitVec.ofNat_toNat, BitVec.setWidth_eq, hframe.same, hu.frame.same]

/-- A refill leaves the held bits where they were (R131). -/
theorem bits_refilled_mod {s : State} (hacc : s.AccOk) (hn : s.nbits.toNat ≤ 24) {k : Nat} (hk : k ≤ s.nbits.toNat) :
    s.refilled.bits.toNat % 2 ^ k = s.bits.toNat % 2 ^ k := by
  obtain ⟨m, hm⟩ := Nat.exists_eq_add_of_le hk
  rw [State.refilled_bits, toNat_or_shiftLeft hacc.1 hn, hm, Nat.pow_add, Nat.mul_assoc, Nat.add_mul_mod_self_left]

theorem eq_refilled_of_refill {s t : State} (h : refill s = .val () t) : s.nbits.toNat ≤ 24 ∧ t = s.refilled := by
  rcases refill_cases s with ⟨-, hr⟩ | ⟨-, -, hr⟩ | ⟨hn, -, -, hr⟩ | ⟨-, -, -, hr⟩ <;> rw [hr] at h <;> cases h
  exact ⟨hn, rfl⟩

/-- A code is not found where it is not all held (R163). -/
theorem lt_lookup_of_notFound {tab : Table} (htab : SelfDelimiting tab) {s : State} (h : symFound tab s = none) :
    s.nbits.toNat < (lookup tab s.bits).2 := by
  rw [symFound, if_neg (htab.total _)] at h
  split at h
  next => cases h
  next hle => exact Nat.lt_of_not_le hle

/-- With fewer bits held than a code and a byte, `DecodeSym` reads no whole byte too many (R136). -/
theorem decodeSym_small {tab : Table} (htab : SelfDelimiting tab) {s t : State} {y : Symbol} (hacc : s.AccOk)
    (h : decodeSym tab s = .val y t) (h8 : s.nbits.toNat < (lookup tab s.bits).2 + 8) : t.nbits.toNat ≤ 7 := by
  have hread := h ▸ decodeSym_readsTo tab s
  generalize hr : Res.val y t = r at hread
  clear h
  induction hread with
  | @done s r h =>
    rw [symFound, if_neg (htab.total _)] at h
    split at h
    next hle =>
      obtain ⟨-, rfl⟩ := Res.val.inj (hr.trans (Option.some.inj h).symm)
      rw [nbits_consume hle]
      omega
    next => cases h
  | stop => cases hr
  | @more s s1 r h hrf _ ih =>
    obtain ⟨hn, rfl⟩ := eq_refilled_of_refill hrf
    have hlt := lt_lookup_of_notFound htab h
    have hnew : s.nbits.toNat < (lookup tab s.refilled.bits).2 := by
      refine Nat.lt_of_not_le fun hle => ?_
      rw [htab.pref _ _ (bits_refilled_mod hacc hn hle).symm] at hlt
      exact Nat.not_lt.mpr hle hlt
    exact ih (accOk_refilled hacc hn) (by rw [nbits_refilled hn]; exact Nat.add_lt_add_right hnew 8) hr

/-! ### A literal/length symbol by the stream -/

/-- The extra bits LL_SYM reads behind a symbol's code (R264). -/
def llExtra (y : Symbol) : Nat := if entryKind y.entry = .base then ((entryNX y.entry).setWidth 3).toNat else 0

/-- What LL_SYM does once a symbol and its extra field are read (R261 to R264). -/
def llFinish (y : Symbol) (x : Nat) (s : State) : Result :=
  match entryKind y.entry with
  | .lit => literal (BitVec.ofNat 8 ((entryPayload y.entry).toNat % 256)) s
  | .eob => endOfBlock s
  | .base => finishLength x (s.latchLen ((entryPayload y.entry).setWidth 9) ((entryNX y.entry).setWidth 3))
  | .invalid => badCode s
  | _ => .next (s.raise .internalHuffmanState)

theorem llExtra_le (y : Symbol) : llExtra y ≤ 7 := by
  unfold llExtra
  split <;> omega

theorem Taken.refl (s : State) : Taken s 0 s := ⟨.refl s, Nat.zero_le _, (Nat.div_one _).symm, rfl, id⟩

/-- Behind its code, a symbol's pass is its extra field, then its effect. -/
theorem llRest_stream {s : State} (hs : Readable s) (y : Symbol) (h : llExtra y ≤ s.streamLen) :
    ∃ u, Taken s (llExtra y) u ∧ llRest y s = llFinish y (s.streamValue % 2 ^ llExtra y) u := by
  by_cases hk : entryKind y.entry = .base
  · have hx : llExtra y = ((entryNX y.entry).setWidth 3).toNat := if_pos hk
    have h7 := llExtra_le y
    rw [hx] at h h7 ⊢
    obtain ⟨v, u, htake, hv, hu⟩ := take_stream hs h (.inl (by omega))
    refine ⟨u, hu, ?_⟩
    rw [llRest, llFinish, hk]
    dsimp only
    rw [take_latchLen (by omega) _ _ htake, ← hv]
    rfl
  · have hx : llExtra y = 0 := if_neg hk
    refine ⟨s, hx ▸ .refl s, ?_⟩
    unfold llRest llFinish
    cases hk' : entryKind y.entry with
    | base => exact absurd hk' hk
    | _ => rfl

/-- The effect of a symbol looks neither at the accumulator and the input cursor nor at the parameter of the fast variant. -/
theorem llFinish_map {f : State → State} (hf : f = State.giveBack ∨ f = (·.withFast true)) (y : Symbol) (x : Nat) (s : State) :
    llFinish y x (f s) = mapNext f (llFinish y x s) := by
  have hlit (b : Byte) : literal b (f s) = mapNext f (literal b s) := by
    rcases hf with rfl | rfl <;>
      exact ite_both (R := fun o o' : Result => o = mapNext _ o') .rfl (fun _ => rfl) fun _ =>
        ite_both (R := fun o o' : Result => andThen o (fun t => .next { t with fsm := .llSym }) =
          mapNext _ (andThen o' fun t => .next { t with fsm := .llSym })) .rfl (fun _ => rfl) fun _ => rfl
  unfold llFinish
  cases entryKind y.entry with
  | lit => exact hlit _
  | _ => rcases hf with rfl | rfl <;> rfl

/-- The symbol whose code the bits `w` begin with. -/
def symbolAt (tab : Table) (w : Acc) : Symbol := ⟨(lookup tab w).1, (lookup tab w).2, w.toNat % 2 ^ (lookup tab w).2⟩

/-- A pass of LL_SYM on a stream long enough for any symbol: what it does is in the stream, whatever part of it is held. -/
theorem run_llSym {s : State} (hs : Readable s) (hf : s.fsm = .llSym) (htab : SelfDelimiting s.tab0) (h22 : 22 ≤ s.streamLen)
    {y : Symbol} (hy : y = symbolAt s.tab0 (BitVec.ofNat 32 s.streamValue)) :
    ∃ u, Taken s (y.len + llExtra y) u ∧ (s.nbits.toNat < (lookup s.tab0 s.bits).2 + 8 → u.nbits.toNat ≤ 7) ∧
      (fetchElement s).run = llFinish y (s.streamValue / 2 ^ y.len % 2 ^ llExtra y) u := by
  have h15 : y.len ≤ 15 := hy ▸ htab.short _
  have h7 := llExtra_le y
  obtain ⟨t, hsym, ht⟩ := decodeSym_stream htab hs rfl ((htab.short _).trans (by omega))
  replace hsym : decodeSym s.tab0 s = .val y t := hy ▸ hsym
  replace ht : Taken s y.len t := hy ▸ ht
  obtain ⟨u, hu, hrest⟩ := llRest_stream (hs.after ht.frame) y (by rw [ht.len]; omega)
  refine ⟨u, ht.trans hu, fun h8 => hu.small (decodeSym_small htab hs.acc hsym h8), ?_⟩
  rw [fetchElement, hf]
  dsimp only
  rw [run_fetchLL, hsym, ← ht.value]
  exact hrest

/-! ### The two variants -/

theorem Taken.withFast {s t : State} {n : Nat} (h : Taken s n t) (b : Bool) : Taken (s.withFast b) n (t.withFast b) :=
  ⟨⟨congrArg (·.withFast b) h.frame.same, h.frame.moved, h.frame.inside, h.frame.acc⟩, h.le, h.value, h.len, h.small⟩

theorem withFast_withFast {s : State} {b : Bool} (h : s.par.fast = b) : (s.withFast false).withFast b = s := by
  subst h
  rfl

/-- Settles O58: both variants read the same symbol, and giving back undoes what the fast one read too much. -/
theorem fastVariantAgrees : Obligations.FastVariantAgrees := by
  rintro s lens ⟨hb, hd, hi⟩ hready hthr hacc hheld hspace hbuilt
  have hfields := hready
  simp only [State.fastReady, Bool.and_eq_true, decide_eq_true_eq] at hfields
  obtain ⟨⟨⟨hfast, hfsm⟩, hsrc⟩, -⟩ := hfields
  have hs : Readable s := ⟨hacc, by omega, hspace⟩
  have htab := selfDelimiting_of_built hbuilt
  have hlen : 22 ≤ s.streamLen := by
    have := hthr.1
    rw [State.streamLen]
    omega
  have hahead : Fills s s.readAhead := hs.readAheadLoop_fills 4
  have htabs : s.readAhead.tab0 = s.tab0 := by rw [hahead.frame.same]
  have hfsms : s.readAhead.fsm = s.fsm := by rw [hahead.frame.same]
  obtain ⟨t, ht, -, hquick⟩ := run_llSym (hs.after hahead.frame) (hfsms.trans hfsm) (htabs ▸ htab) (hahead.len ▸ hlen)
    (y := symbolAt s.tab0 (BitVec.ofNat 32 s.streamValue)) (by rw [htabs, hahead.value])
  obtain ⟨u, hu, h7, hslow⟩ := run_llSym (s := s.withFast false) ⟨hacc, hs.order, hspace⟩ hfsm htab hlen rfl
  have hsmall : s.nbits.toNat < (lookup s.tab0 s.bits).2 + 8 := by omega
  have hback : t.giveBack = u.withFast true :=
    Taken.giveBack_eq hs hahead ht (withFast_withFast hfast ▸ hu.withFast true) (h7 hsmall)
  have hquickStep : step s = mapNext State.giveBack (fetchElement s.readAhead).run := by
    rw [step_of_pass hb hi]
    rcases pass_decoding hd with ⟨-, hno⟩ | ⟨hp, -⟩
    · exact nomatch hno.symm.trans hready
    · exact hp
  have hslowStep : step (s.withFast false) = (fetchElement (s.withFast false)).run := step_eq_run ⟨hb, hd, hi⟩ rfl
  rw [hquickStep, hquick, hahead.value, ← llFinish_map (.inl rfl), hback, hslowStep, hslow]
  exact llFinish_map (.inr rfl) _ _ u

end Sys2Proof.Machine
end
section
/-! PROOF. The two lookup statements (R160, R166, R167): in a built table the lookup finds the symbol whose code the bits begin with, or
INVALID, and never EMPTY. -/

namespace Sys2Proof.Machine

/-- Settles O40: no other code is found in bits that begin with the symbol's, so the lookup answers that symbol. -/
theorem lookupRoundTrip : Obligations.LookupRoundTrip := fun _ _ _ _ _ _ hbuilt h0 hr => lookup_of_code hbuilt h0 hr

/-- Settles O41: a built table is self-delimiting, and bits that begin with no code select INVALID. -/
theorem lookupIsTotal : Obligations.LookupIsTotal := by
  intro p A lens t r hbuilt
  refine ⟨(selfDelimiting_of_built hbuilt).total r, or_iff_not_imp_left.mpr fun hno => ?_⟩
  exact lookup_of_noCode hbuilt fun y hy => hno ⟨y, hy⟩

end Sys2Proof.Machine
end
section
/-! PROOF. What the builder answers, by the Kraft sum (R152, R154, R155, R161): R154's loop is over-subscribed where the sum passes
2^15, and else has the difference left; a complete code of at most 288 symbols has a short length (R161), and a code of no length
past one bit has no sub-table. -/

namespace Sys2Proof.Machine

/-! ### The Kraft sum (R154) -/

/-- The part of the Kraft sum that the `n` lengths past `L` have. -/
def kraftSumPast (lens : List Nat) (L n : Nat) : Nat := ((List.range' (L + 1) n).map fun M => codeCount lens M * 2 ^ (15 - M)).sum

theorem kraftSum_eq_past (lens : List Nat) : kraftSum lens = kraftSumPast lens 0 15 := rfl

theorem kraftSumPast_succ (lens : List Nat) (L n : Nat) :
    kraftSumPast lens L (n + 1) = codeCount lens (L + 1) * 2 ^ (15 - (L + 1)) + kraftSumPast lens (L + 1) n := by
  rw [kraftSumPast, List.range'_succ, List.map_cons, List.sum_cons, kraftSumPast]

/-- R154's loop, from the value `left` over the last `n` of the 15 lengths: their part of the sum is taken off, where it fits. -/
theorem kraftLoop_eq {lens : List Nat} {n L : Nat} (hL : L + n = 15) (left : Nat) :
    kraftLoop lens (List.range' (L + 1) n) left =
      if left * 2 ^ n < kraftSumPast lens L n then none else some (left * 2 ^ n - kraftSumPast lens L n) := by
  induction n generalizing L left with
  | zero => simp [kraftLoop, kraftSumPast]
  | succ n ih =>
    rw [List.range'_succ, kraftLoop, ih (by omega), kraftSumPast_succ, show 15 - (L + 1) = n by omega, Nat.sub_mul,
      show left * 2 ^ (n + 1) = 2 * left * 2 ^ n by ring]
    rcases Nat.lt_or_ge (2 * left) (codeCount lens (L + 1)) with hlt | hge
    · have := Nat.mul_lt_mul_of_pos_right hlt (Nat.two_pow_pos n)
      rw [if_pos hlt, if_pos (by omega)]
    · have := Nat.mul_le_mul_right (2 ^ n) hge
      rw [if_neg (Nat.not_lt.mpr hge), Nat.sub_sub]
      exact if_congr (by omega) rfl rfl

/-- The loop's answer by the Kraft sum. -/
theorem kraftLoop_kraftSum (lens : List Nat) :
    kraftLoop lens (shortLengths ++ longLengths) 1 =
      if 2 ^ 15 < kraftSum lens then none else some (2 ^ 15 - kraftSum lens) := by
  rw [kraftSum_eq_past, lengths_eq, kraftLoop_eq rfl, Nat.one_mul]

/-! ### The lengths that are used -/

theorem mem_usedLengths {lens : List Nat} {L : Nat} : L ∈ usedLengths lens ↔ (1 ≤ L ∧ L ≤ 15) ∧ codeCount lens L ≠ 0 := by
  rw [usedLengths, List.mem_filter, lengths_eq, List.mem_range'_1, decide_eq_true_eq]
  exact and_congr_left' (by omega)

theorem usedLengths_eq_nil {lens : List Nat} : usedLengths lens = [] ↔ ∀ L, 1 ≤ L → L ≤ 15 → codeCount lens L = 0 := by
  simp only [List.eq_nil_iff_forall_not_mem, mem_usedLengths, not_and, not_not, and_imp]

theorem usedLengths_eq_one {lens : List Nat} : usedLengths lens = [1] ↔ codeCount lens 1 ≠ 0 ∧ OneBitCode lens := by
  constructor
  · intro h
    exact ⟨(mem_usedLengths.mp (h ▸ List.mem_singleton_self 1)).2, oneBitCode_of_used (.inl h)⟩
  · rintro ⟨h1, hone⟩
    have hrest : (List.range' 2 14).filter (fun L => decide (codeCount lens L ≠ 0)) = [] := List.filter_eq_nil_iff.mpr fun L hL => by
      rw [List.mem_range'_1] at hL
      simpa using hone L hL.1 (by omega)
    rw [usedLengths, lengths_eq, List.range'_succ, List.filter_cons_of_pos (by simpa using h1), hrest]

/-- R155's exceptions, by the counts. -/
theorem acceptsUnder_iff {p : Params} {A : Alphabet} {lens : List Nat} :
    acceptsUnder p A lens = true ↔
      A = .d ∧ (codeCount lens 1 = 1 ∧ (∀ L, 2 ≤ L → L ≤ 15 → codeCount lens L = 0) ∨
        p.emptyDist = .accept ∧ ∀ L, 1 ≤ L → L ≤ 15 → codeCount lens L = 0) := by
  simp only [acceptsUnder, Bool.and_eq_true, Bool.or_eq_true, decide_eq_true_eq, usedLengths_eq_one, usedLengths_eq_nil]
  refine and_congr_right' (or_congr (and_congr_right fun h1 => ?_) and_comm)
  exact and_iff_right (by omega)

/-- The symbols with a long code are no more than the alphabet's. -/
theorem sum_longCounts_le (lens : List Nat) : (longLengths.map (codeCount lens)).sum ≤ lens.length := by
  induction lens with
  | nil => decide
  | cons l lens ih =>
    simp only [longLengths, codeCount, List.map_cons, List.map_nil, List.sum_cons, List.sum_nil, List.count_cons, List.length_cons,
      beq_iff_eq, OfNat.ofNat_ne_zero, if_false] at ih ⊢
    split_ifs <;> omega

/-- A code whose shortest length is past 9 bits takes less than a third of the Kraft sum: 288 codes of 10 bits at most. -/
theorem kraftSum_of_minLength {lens : List Nat} (hlen : lens.length ≤ 288) (h : 9 < (usedLengths lens).headD 1) :
    kraftSum lens ≤ 288 * 2 ^ 5 := by
  have hshort : ∀ L ∈ shortLengths, codeCount lens L = 0 := by
    cases hf : shortLengths.filter (fun L => decide (codeCount lens L ≠ 0)) with
    | nil => simpa using List.filter_eq_nil_iff.mp hf
    | cons L Ls =>
      have hmem : L ∈ shortLengths := List.mem_of_mem_filter (hf ▸ List.mem_cons_self)
      have hle : ∀ L ∈ shortLengths, L ≤ 9 := by decide
      rw [usedLengths, List.filter_append, hf, List.cons_append, List.headD_cons] at h
      exact absurd (hle L hmem) (Nat.not_le.mpr h)
  have hzero : (shortLengths.map fun L => codeCount lens L * 2 ^ (15 - L)).sum = 0 :=
    List.sum_eq_zero (List.forall_mem_map.mpr fun L hL => by rw [hshort L hL, Nat.zero_mul])
  have hlong := sum_longCounts_le lens
  rw [kraftSum, List.map_append, List.sum_append, hzero]
  simp only [longLengths, List.map_cons, List.map_nil, List.sum_cons, List.sum_nil] at hlong ⊢
  omega

/-- A code with no length past one bit has no sub-table (R159). -/
theorem subTables_of_oneBit {lens : List Nat} (h : OneBitCode lens) : subTables lens = ([], 512) := by
  have hlong : longCodes lens = [] := List.flatMap_eq_nil_iff.mpr fun L hL => by
    have hrange : ∀ L ∈ longLengths, 2 ≤ L ∧ L ≤ 15 := by decide
    obtain ⟨h2, h15⟩ := hrange L hL
    rw [h L h2 h15]
    rfl
  rw [subTables, hlong]
  rfl

/-! ### What a build answers -/

theorem build_over {p : Params} {A : Alphabet} {lens : List Nat} (h : 2 ^ 15 < kraftSum lens) : build p A lens = .error .over := by
  rw [build, kraftLoop_kraftSum, if_pos h]

theorem build_complete {p : Params} {A : Alphabet} {lens : List Nat} (hlen : lens.length ≤ 288) (h : kraftSum lens = 2 ^ 15)
    (harena : (subTables lens).2 ≤ 1024) : build p A lens = .ok (tableOf A lens) := by
  refine build_of_complete ?_ (Nat.not_lt.mp fun hmin => ?_) harena
  · rw [kraftLoop_kraftSum, if_neg (by omega), h, Nat.sub_self]
  · have := kraftSum_of_minLength hlen hmin
    omega

/-- An alphabet that R155 accepts passes every later check: its codes are of one bit. -/
theorem build_accepted {p : Params} {A : Alphabet} {lens : List Nat} (h : kraftSum lens < 2 ^ 15)
    (hacc : acceptsUnder p A lens = true) : build p A lens = .ok (tableOf A lens) := by
  have hused : usedLengths lens = [1] ∨ usedLengths lens = [] := by
    simp only [acceptsUnder, Bool.and_eq_true, Bool.or_eq_true, decide_eq_true_eq] at hacc
    exact hacc.2.imp And.right And.left
  have hhead : (usedLengths lens).headD 1 = 1 := by rcases hused with hu | hu <;> rw [hu] <;> rfl
  rw [build, kraftLoop_kraftSum, if_neg (by omega)]
  dsimp only
  rw [if_neg (by simp [hacc]), hhead, if_neg (by omega), subTables_of_oneBit (oneBitCode_of_used hused), if_neg (by omega)]

theorem build_under {p : Params} {A : Alphabet} {lens : List Nat} (h : kraftSum lens < 2 ^ 15)
    (hacc : acceptsUnder p A lens = false) : build p A lens = .error .under := by
  rw [build, kraftLoop_kraftSum, if_neg (by omega)]
  exact if_pos ⟨by omega, hacc⟩

/-- Settles O39: the loop of R154 compares the Kraft sum with 2^15, and the later checks follow from it. -/
theorem buildByKraftSum : Obligations.BuildByKraftSum := by
  rintro p A lens ⟨hlen, -⟩
  refine ⟨build_over, build_complete hlen, fun hlt => ⟨fun h => build_accepted hlt (acceptsUnder_iff.mpr h), fun h => ?_⟩⟩
  exact build_under hlt (Bool.eq_false_iff.mpr fun hacc => h (acceptsUnder_iff.mp hacc))

end Sys2Proof.Machine
end
section
/-! PROOF. What a built table's slots hold (R150, R156, R158 to R160), and that a step either leaves the two tables as they are or puts
built ones there (R152): whatever every built table has, the engine's tables keep. -/

namespace Sys2Proof.Machine

/-! ### The slots of a built table -/

/-- What a slot of a table of alphabet `A` with `n` symbols can hold. -/
inductive SlotHolds (A : Alphabet) (n : Nat) : Entry → Prop where
  | symbol {y nb : Nat} (hy : y < n) (h1 : 1 ≤ nb) (h9 : nb ≤ 9) : SlotHolds A n (makeEntry A y nb)
  | redirect {off width : Nat} (ho : off < 65536) (hw : width < 16) : SlotHolds A n (packEntry 0x10 off width 9)
  | invalid : SlotHolds A n (packEntry 0x08 0 0 1)
  | empty : SlotHolds A n 0

theorem LaidOut.width_lt {codes : List (Nat × Nat)} {subs : List SubTable} {next : Nat} (h : LaidOut codes subs next)
    (harena : next ≤ 1024) {t : SubTable} (ht : t ∈ subs) : t.width < 16 := by
  obtain ⟨-, hend⟩ := h.inside t ht
  by_contra hge
  have := Nat.pow_le_pow_right (n := 2) (by decide) (Nat.not_lt.mp hge)
  omega

/-- A primary slot holds a short code's entry, a redirect or INVALID. -/
theorem slotHolds_primary (A : Alphabet) {lens : List Nat} (harena : (subTables lens).2 ≤ 1024) (i : Nat) :
    SlotHolds A lens.length (primaryEntry A lens (subTables lens).1 i) := by
  unfold primaryEntry
  split
  next L y hc =>
    obtain ⟨hL, hy⟩ := codeIn_some hc
    have hrange : ∀ L ∈ shortLengths, 1 ≤ L ∧ L ≤ 9 := by decide
    exact .symbol (symbolOf_lt hy) (hrange L hL).1 (hrange L hL).2
  next =>
    split
    next t hf =>
      have hlaid := (subTables_laidOut lens).1
      have ht := List.mem_of_find?_eq_some hf
      have hoff : t.off ≤ 1024 := (Nat.le_add_right _ _).trans ((hlaid.inside t ht).2.trans harena)
      exact .redirect (by omega) (hlaid.width_lt harena ht)
    next => exact .invalid

/-- A sub-table slot holds a long code's entry or EMPTY. -/
theorem slotHolds_sub (A : Alphabet) (lens : List Nat) (subs : List SubTable) (i : Nat) :
    SlotHolds A lens.length (subEntry A lens subs i) := by
  unfold subEntry
  split
  next t _ =>
    split
    next L y hc =>
      obtain ⟨hL, hy⟩ := codeIn_some hc
      have hrange : ∀ L ∈ longLengths, 1 ≤ L - 9 ∧ L - 9 ≤ 9 := by decide
      exact .symbol (symbolOf_lt hy) (hrange L hL).1 (hrange L hL).2
    next => exact .empty
  next => exact .empty

theorem slotHolds_of_built {p : Params} {A : Alphabet} {lens : List Nat} {t : Table} (h : build p A lens = .ok t) (i : Nat) :
    SlotHolds A lens.length (readTable t i) := by
  rw [eq_tableOf_of_build h]
  by_cases hi : i < 1024
  · rw [readTable_tableOf A lens hi, slotEntry]
    split
    · exact slotHolds_primary A (build_checked h).2 i
    · exact slotHolds_sub A lens _ i
  · rw [readTable, Vector.getElem?_eq_none (Nat.not_lt.mp hi)]
    exact .empty

/-! ### What every built table has -/

theorem entryNB_makeEntry (A : Alphabet) (y : Nat) {nb : Nat} (hb : nb < 16) : (entryNB (makeEntry A y nb)).toNat = nb := by
  cases A with
  | cl => exact entryNB_pack hb
  | ll =>
    unfold makeEntry
    split_ifs <;> exact entryNB_pack hb
  | d =>
    unfold makeEntry
    split_ifs <;> exact entryNB_pack hb

/-- R150: an entry that is not EMPTY takes a bit. -/
theorem tableProgress_of_built {p : Params} {A : Alphabet} {lens : List Nat} {t : Table} (h : build p A lens = .ok t) :
    TableProgress t := by
  intro i hne
  have hslot := slotHolds_of_built h i
  generalize readTable t i = e at hne hslot
  cases hslot with
  | symbol hy h1 h9 => rwa [entryNB_makeEntry A _ (by omega)]
  | redirect ho hw => rw [entryNB_pack (by decide)]; decide
  | invalid => decide
  | empty => exact absurd (by decide) hne

/-- A code-length symbol's entry is not BASE (R156). -/
theorem makeEntry_cl_kind {y nb : Nat} (hy : y < 65536) (hb : nb < 16) : entryKind (makeEntry .cl y nb) = .lit :=
  entryKind_pack (by decide) hy (by decide) hb

/-- Only a length symbol's entry is BASE in an LL table (R156). -/
theorem length_of_makeEntry_base {y nb : Nat} (hb : nb < 16) (h : entryKind (makeEntry .ll y nb) = .base) : 257 ≤ y ∧ y < 286 := by
  unfold makeEntry at h
  dsimp only at h
  split at h
  next hlit => exact absurd h (by rw [entryKind_pack (by decide) (by omega) (by decide) hb]; decide)
  split at h
  next => exact absurd h (by rw [entryKind_pack (by decide) (by decide) (by decide) hb]; decide)
  split at h
  next => omega
  next => exact absurd h (by rw [entryKind_pack (by decide) (by decide) (by decide) hb]; decide)

/-- Only a distance symbol's entry is BASE in a D table (R156). -/
theorem distance_of_makeEntry_base {y nb : Nat} (hb : nb < 16) (h : entryKind (makeEntry .d y nb) = .base) : y < 30 := by
  by_contra hy
  rw [makeEntry, if_neg hy, entryKind_pack (by decide) (by decide) (by decide) hb] at h
  exact absurd h (by decide)

/-- A BASE entry of a built table is a symbol's. -/
theorem SlotHolds.base {A : Alphabet} {n : Nat} {e : Entry} (h : SlotHolds A n e) (hk : entryKind e = .base) :
    ∃ y nb, y < n ∧ nb < 16 ∧ e = makeEntry A y nb := by
  cases h with
  | symbol hy h1 h9 => exact ⟨_, _, hy, by omega, rfl⟩
  | redirect ho hw =>
    rw [entryKind_pack (by decide) ho hw (by decide)] at hk
    exact absurd hk (by decide)
  | invalid => exact absurd hk (by decide)
  | empty => exact absurd hk (by decide)

theorem lengthEntries_of_built {p : Params} {A : Alphabet} {lens : List Nat} {t : Table} (hA : A ≠ .d) (hlen : lens.length ≤ 320)
    (h : build p A lens = .ok t) : LengthEntries t := by
  intro i hk
  obtain ⟨y, nb, hy, hb, he⟩ := (slotHolds_of_built h i).base hk
  rw [he] at hk ⊢
  cases A with
  | cl => exact absurd (hk.symm.trans (makeEntry_cl_kind (by omega) hb)) (by decide)
  | ll =>
    obtain ⟨h257, h286⟩ := length_of_makeEntry_base hb hk
    obtain ⟨-, hpay, hnx⟩ := makeEntry_length h257 h286 hb
    exact ⟨y - 257, by omega, hpay, hnx⟩
  | d => exact absurd rfl hA

theorem distanceEntries_of_built {p : Params} {lens : List Nat} {t : Table} (h : build p .d lens = .ok t) : DistanceEntries t := by
  intro i hk
  obtain ⟨y, nb, -, hb, he⟩ := (slotHolds_of_built h i).base hk
  rw [he] at hk ⊢
  have h30 := distance_of_makeEntry_base hb hk
  obtain ⟨-, hpay, hnx⟩ := makeEntry_distance h30 hb
  exact ⟨y, h30, hpay, hnx⟩

/-! ### What the engine's tables keep -/

/-- `Q` of `TAB[0]` and `R` of `TAB[1]`. -/
def State.TablesHave (Q R : Table → Prop) (s : State) : Prop := Q s.tab0 ∧ R s.tab1

/-- Whatever the engine builds into `TAB[0]` has `Q`, and into `TAB[1]` has `R` (R152). -/
structure BuildsHave (Q R : Table → Prop) : Prop where
  tab0 : ∀ {p : Params} {A : Alphabet} {lens : List Nat} {t : Table}, A ≠ .d → lens.length ≤ 320 → build p A lens = .ok t → Q t
  tab1 : ∀ {p : Params} {lens : List Nat} {t : Table}, build p .d lens = .ok t → R t

theorem buildsHave_progress : BuildsHave TableProgress TableProgress :=
  ⟨fun _ _ => tableProgress_of_built, tableProgress_of_built⟩

theorem buildsHave_entries : BuildsHave LengthEntries DistanceEntries := ⟨lengthEntries_of_built, distanceEntries_of_built⟩

/-- Every next state's tables have the two properties. -/
abbrev TablesKept (Q R : Table → Prop) (o : Result) : Prop := Gives (State.TablesHave Q R) o

section
variable {Q R : Table → Prop}

theorem length_lensFrom_le (s : State) (a n : Nat) : (s.lensFrom a n).length ≤ 320 := by
  simp [State.lensFrom]

theorem tablesKept_buildTab0 (hb : BuildsHave Q R) {A : Alphabet} (hA : A ≠ .d) {lens : List Nat} (hlen : lens.length ≤ 320)
    {s : State} (hs : s.TablesHave Q R) {k : State → Result} (hk : ∀ t, State.TablesHave Q R t → TablesKept Q R (k t)) :
    TablesKept Q R (buildTab0 A lens s k) := by
  unfold buildTab0
  split
  next t ht => exact hk _ ⟨hb.tab0 hA hlen ht, hs.2⟩
  next => exact gives_next hs

theorem tablesKept_buildTab1 (hb : BuildsHave Q R) {lens : List Nat} {s : State} (hs : s.TablesHave Q R) {k : State → Result}
    (hk : ∀ t, State.TablesHave Q R t → TablesKept Q R (k t)) : TablesKept Q R (buildTab1 .d lens s k) := by
  unfold buildTab1
  split
  next t ht => exact hk _ ⟨hs.1, hb.tab1 ht⟩
  next => exact gives_next hs

/-! ### The three builds -/

theorem tablesKept_fixedInit (hb : BuildsHave Q R) {s : State} (hs : s.TablesHave Q R) : TablesKept Q R (fixedInit s) := by
  unfold fixedInit
  generalize fixedLens = l
  dsimp only
  exact tablesKept_buildTab0 hb (by decide) (length_lensFrom_le _ _ _) (by exact hs) fun _ ht =>
    tablesKept_buildTab1 hb ht fun _ hu => gives_next hu

theorem tablesKept_cllDone (hb : BuildsHave Q R) {s : State} (hs : s.TablesHave Q R) : TablesKept Q R (cllDone s) := by
  unfold cllDone
  rw [clearTail_frame]
  dsimp only
  exact tablesKept_buildTab0 hb (by decide) (length_lensFrom_le _ _ _) (by exact hs) fun _ ht => gives_next ht

theorem tablesKept_dynBuild (hb : BuildsHave Q R) {s : State} (hs : s.TablesHave Q R) : TablesKept Q R (dynBuild s) :=
  gives_ite (fun _ => gives_next hs) fun _ =>
    tablesKept_buildTab0 hb (by decide) (length_lensFrom_le _ _ _) hs fun _ ht =>
      tablesKept_buildTab1 hb ht fun _ hu => gives_next hu

/-! ### Moves that build nothing -/

theorem tablesKept_emit {s : State} (hs : s.TablesHave Q R) (b : Byte) {f : State → State}
    (hf : ∀ t, State.TablesHave Q R t → (f t).TablesHave Q R) : TablesKept Q R (andThen (emit b s) fun t => .next (f t)) := by
  rcases emit_cases b s with ⟨-, h⟩ | ⟨-, h⟩ <;> rw [h]
  · exact gives_next (hf (s.emitted b) hs)
  · exact gives_fault _

theorem tablesKept_litOut {s : State} (hs : s.TablesHave Q R) : TablesKept Q R (litOut s) :=
  gives_ite (fun _ => gives_next hs) fun _ => tablesKept_emit hs _ fun _ ht => ht

theorem tablesKept_execStoredByte (b : Byte) {s : State} (hs : s.TablesHave Q R) : TablesKept Q R (execStoredByte b s) :=
  gives_ite (fun _ => gives_next hs) fun _ => tablesKept_emit hs _ fun _ ht => ht

theorem tablesKept_copyRun {s : State} (hs : s.TablesHave Q R) : TablesKept Q R (copyRun s) := fun t =>
  copyLoop_induct (P := State.TablesHave Q R) (Q := State.TablesHave Q R) (fun _ h => h) (fun _ h _ => h) (fun _ h _ => h) _ s t hs

theorem tablesKept_finishDist (x : Nat) {s : State} (hs : s.TablesHave Q R) : TablesKept Q R (finishDist x s) :=
  gives_ite (fun _ => gives_next hs) fun _ => tablesKept_copyRun hs

theorem tablesKept_applyRepeat (x : Nat) {s : State} (hs : s.TablesHave Q R) : TablesKept Q R (applyRepeat x s) := by
  unfold applyRepeat
  dsimp only
  rw [fillLens_frame]
  exact gives_ite (fun _ => gives_next hs) fun _ => gives_next hs

theorem tablesKept_header (v : BitVec 3) {s : State} (hs : s.TablesHave Q R) : TablesKept Q R (exec (decodeHeader v) s) := by
  unfold decodeHeader
  split
  · show TablesKept Q R (alignToStored _)
    unfold alignToStored
    rcases align_cases (s.latchHeader 0 (v.getLsbD 0)) fun t => .next { t with fsm := .storedLen } with h | h <;> rw [h]
    · exact gives_next hs
    · exact gives_next hs
  · exact gives_next hs
  · exact gives_next hs
  · exact gives_next hs

/-! ### Reads -/

theorem BitFrame.tablesHave {s t : State} (h : BitFrame s t) (hs : s.TablesHave Q R) : t.TablesHave Q R := by
  rw [h.same]
  exact hs

theorem tablesHave_inputExhausted {s : State} (hs : s.TablesHave Q R) : s.inputExhausted.TablesHave Q R := by
  rcases inputExhausted_cases s with h | h <;> rw [h] <;> exact hs

theorem tablesKept_run {α : Type} {s : State} {r : Res α} {k : α → State → Result} (hs : s.TablesHave Q R)
    (hr : (∀ a t, r = .val a t → BitFrame s t) ∧ ∀ o, r = .stop o → ReadStop s o)
    (hk : ∀ a t, State.TablesHave Q R t → TablesKept Q R (k a t)) : TablesKept Q R (r.run k) := by
  cases r with
  | val a t => exact hk a t ((hr.1 a t rfl).tablesHave hs)
  | stop o =>
    show TablesKept Q R o
    cases hr.2 o rfl with
    | exhausted t ht _ => exact gives_next (tablesHave_inputExhausted (ht.tablesHave hs))
    | bitCount t ht | empty t ht => exact gives_next (ht.tablesHave hs)
    | noAddress => exact gives_fault _

theorem tablesKept_llRest (y : Symbol) {s : State} (hs : s.TablesHave Q R) : TablesKept Q R (llRest y s) := by
  unfold llRest
  cases entryKind y.entry with
  | lit => exact tablesKept_litOut hs
  | base => exact tablesKept_run (s := s.latchLen _ _) hs (take_frame (by omega) _) fun _ _ ht => gives_next ht
  | _ => exact gives_next hs

theorem tablesKept_distRest (y : Symbol) {s : State} (hs : s.TablesHave Q R) : TablesKept Q R (distRest y s) := by
  unfold distRest
  cases entryKind y.entry with
  | base => exact tablesKept_run (s := s.latchDist _ _) hs (take_frame (by omega) _) fun _ _ ht => tablesKept_finishDist _ ht
  | _ => exact gives_next hs

theorem tablesKept_clRest (y : Symbol) {s : State} (hs : s.TablesHave Q R) : TablesKept Q R (clRest y s) := by
  unfold clRest
  have hn : repeatExtra (entryPayload y.entry).toNat ≤ 32 := (repeatExtra_le _).trans (by decide)
  refine gives_ite (fun _ => gives_next hs) fun _ => gives_ite (fun _ => gives_next hs) fun _ =>
    gives_ite (fun _ => gives_next hs) fun _ => ?_
  exact tablesKept_run (s := s.latchRepeat _) hs (take_frame hn _) fun _ _ ht =>
    gives_ite (fun _ => tablesKept_applyRepeat _ ht) fun _ => gives_next ht

/-! ### Every pass, every step -/

theorem tablesKept_field {s t : State} {n : Nat} {k : Acc → State → Result} (h : fieldRead s = some (n, k)) (x : Acc)
    (ht : t.TablesHave Q R) : TablesKept Q R (k x t) := by
  unfold fieldRead at h
  split at h
  next => cases h; exact tablesKept_header _ ht
  next => cases h; exact gives_ite (fun _ => gives_next ht) fun _ => gives_next ht
  next => cases h; exact gives_ite (fun _ => gives_next ht) fun _ => gives_next ht
  next => split at h <;> cases h; exact gives_next ht
  next => split at h <;> cases h; exact tablesKept_applyRepeat _ ht
  next => cases h; exact gives_next ht
  next => cases h; exact tablesKept_finishDist _ ht
  next => cases h

theorem tablesKept_symbol {s t : State} {tab : Table} {k : Symbol → State → Result} (h : symbolRead s = some (tab, k)) (y : Symbol)
    (ht : t.TablesHave Q R) : TablesKept Q R (k y t) := by
  unfold symbolRead at h
  split at h
  next => split at h <;> cases h; exact tablesKept_clRest y ht
  next => cases h; exact tablesKept_llRest y ht
  next => cases h; exact tablesKept_distRest y ht
  next => cases h

theorem tablesKept_fetchStored {s : State} (hs : s.TablesHave Q R) : TablesKept Q R (fetchStored s).run := by
  unfold fetchStored
  split
  · exact gives_next hs
  split
  · exact gives_next hs
  split
  · exact gives_next (tablesHave_inputExhausted hs)
  split
  · exact tablesKept_execStoredByte _ hs
  · exact gives_fault _

/-- A pass that takes neither a field nor a symbol from the accumulator. -/
theorem tablesKept_move (hb : BuildsHave Q R) {s : State} (hs : s.TablesHave Q R) (h1 : fieldRead s = none)
    (h2 : symbolRead s = none) : TablesKept Q R (fetchElement s).run := by
  unfold fieldRead at h1
  unfold symbolRead at h2
  cases hf : s.fsm <;> simp only [hf, fetchElement] at h1 h2 ⊢
  case storedCopy => exact tablesKept_fetchStored hs
  case fixedInit =>
    rw [Fetched.run]
    exact tablesKept_fixedInit hb hs
  case dynCll =>
    split at h1
    next => cases h1
    next hi => rw [fetchCll, if_neg hi]; exact tablesKept_cllDone hb hs
  case dynLensSym =>
    split at h2
    next hi => rw [fetchCL, if_pos hi]; exact gives_next hs
    next => cases h2
  case dynLensExtra =>
    split at h1
    next hi => rw [resumeRepeat, if_pos hi]; exact gives_next hs
    next => cases h1
  case dynBuild => exact tablesKept_dynBuild hb hs
  case litOut => exact tablesKept_litOut hs
  case copy => exact tablesKept_copyRun hs
  case blockEnd => exact gives_ite (fun _ => gives_next hs) fun _ => gives_next hs
  case done => exact gives_next hs
  case llSym | distSym => cases h2
  case hdr | storedLen | dynHdr | lenExtra | distExtra => cases h1

/-- Every pass of the loop (R341). -/
theorem tablesKept_fetchElement (hb : BuildsHave Q R) {s : State} (hs : s.TablesHave Q R) :
    TablesKept Q R (fetchElement s).run := by
  cases h1 : fieldRead s with
  | some r =>
    obtain ⟨n, k⟩ := r
    obtain ⟨hn, hrun⟩ := fieldRead_spec h1
    rw [hrun]
    exact tablesKept_run hs (take_frame hn s) fun x _ ht => tablesKept_field h1 x ht
  | none =>
    cases h2 : symbolRead s with
    | some r =>
      obtain ⟨tab, k⟩ := r
      rw [symbolRead_spec h2]
      exact tablesKept_run hs (decodeSym_frame tab s) fun y _ ht => tablesKept_symbol h2 y ht
    | none => exact tablesKept_move hb hs h1 h2

/-- RESET, DECODE, ADD_HISTORY and WORKBUF_LEN. -/
theorem tablesKept_command (c : BitVec 2) {s : State} (hs : s.TablesHave Q R) : TablesKept Q R (exec (decodeCommand c) s) := by
  have hc : c = 0 ∨ c = 1 ∨ c = 2 ∨ c = 3 := by
    revert c
    decide
  rcases hc with rfl | rfl | rfl | rfl
  · exact gives_next hs
  · intro t ht
    rcases execDecode_next ht with ⟨-, st, rfl⟩ | ⟨-, rfl⟩
    · exact hs
    · exact hs
  · intro t ht
    obtain ⟨st, heq⟩ := execAddHistory_next ht
    rw [heq]
    exact hs
  · exact gives_next hs

theorem tablesHave_pass (hb : BuildsHave Q R) {s t : State} (hs : s.TablesHave Q R) (h : pass s = .next t) :
    t.TablesHave Q R := by
  rcases pass_next h with ⟨-, -, hp⟩ | ⟨-, -, -, u, hp, rfl⟩ | ⟨-, hp⟩
  · exact tablesKept_fetchElement hb hs t hp
  · have hahead : s.readAhead.TablesHave Q R := by
      rw [(readAhead_frame s).2]
      exact hs
    exact tablesKept_fetchElement hb hahead u hp
  · exact tablesKept_command _ hs t hp

theorem tablesHave_step (hb : BuildsHave Q R) {s t : State} (hs : s.TablesHave Q R) (h : step s = .next t) :
    t.TablesHave Q R := by
  rcases step_next h with rfl | ⟨-, hp⟩ | ⟨-, u, rfl | ⟨hp, -⟩, rfl⟩
  · exact hs
  · exact tablesHave_pass hb hs hp
  · exact hs
  · have hu : u.TablesHave Q R := tablesHave_pass hb hs hp
    exact hu

end

/-- Settles O50: a step keeps whatever every built table has, and every built table has both invariants. -/
theorem stepKeepsTables : Obligations.StepKeepsTables := fun _ _ h =>
  ⟨fun hs => tablesHave_step buildsHave_progress hs h, fun hs => tablesHave_step buildsHave_entries hs h⟩

end Sys2Proof.Machine
end
section
/-! PROOF. Stored bytes and the end of a block (R193 to R198, R263, R301), and words of the spec's own encodings, decoded (R191, R193,
R199, R221). -/

namespace Sys2Proof.Machine

/-! ### Stored bytes -/

/-- A stored byte with room for it: emitted, and counted off REM (R195, R301). -/
theorem execStoredByte_emits (b : Byte) {s : State} (hroom : s.port.dstPtr ≠ s.port.dstEnd)
    (hsp : s.inSpace s.port.dstPtr = true) :
    execStoredByte b s = .next { s.emitted b with loc := { s.loc with rem := s.loc.rem - 1 } } := by
  rw [execStoredByte, if_neg hroom, emit, if_pos hsp]
  rfl

/-- Settles O15: the output space is looked at first, and the byte is then emitted (R195, R301). -/
theorem storedByteCopies : Obligations.StoredByteCopies := by
  intro s b
  refine ⟨fun hroom hsp => execStoredByte_emits b hroom hsp, fun hroom hsp => ?_, fun hfull => if_pos hfull⟩
  show execStoredByte b s = _
  rw [execStoredByte, if_neg hroom, emit, if_neg (by simp [hsp])]
  rfl

/-- The pass of STORED_COPY (R195). -/
theorem step_storedCopy {s : State} (hs : s.Decoding) (hf : s.fsm = .storedCopy) : step s = (fetchStored s).run := by
  rw [step_of_notLLSym hs (by simp [hf]), fetchElement, hf]

/-- A byte to copy, read from an address that exists: STORED_BYTE, past the byte and inside the loop (R195). -/
theorem fetchStored_reads {s : State} (hrem : s.loc.rem ≠ 0) (hroom : s.port.dstPtr ≠ s.port.dstEnd)
    (hmore : s.port.srcPtr ≠ s.port.srcEnd) (hsp : s.inSpace s.port.srcPtr = true) :
    fetchStored s =
      .instr (.storedByte (s.mem.read s.port.srcPtr))
        { s with inLoop := true, port := { s.port with srcPtr := s.port.srcPtr + 1 } } := by
  rw [fetchStored, if_neg hrem, if_neg hroom, if_neg hmore, if_pos hsp]

/-- Settles O16: the checks come in the order of R195, and past them the byte read is put out as a STORED_BYTE. -/
theorem storedCopyPass : Obligations.StoredCopyPass := by
  intro s hs hf
  rw [step_storedCopy hs hf]
  refine ⟨fun h0 => ?_, fun hrem hfull => ?_, fun hrem hroom hnone => ?_, fun hrem hroom hmore hsrc hdst => ?_⟩
  · rw [fetchStored, if_pos h0]
    rfl
  · rw [fetchStored, if_neg hrem, if_pos hfull]
    rfl
  · rw [fetchStored, if_neg hrem, if_neg hroom, if_pos hnone]
    rfl
  · rw [fetchStored_reads hrem hroom hmore hsrc]
    exact execStoredByte_emits _ hroom hdst

/-! ### The end of a block -/

/-- The pass of BLOCK_END (R198). -/
theorem step_blockEnd {s : State} (hs : s.Decoding) (hf : s.fsm = .blockEnd) : step s = blockEnd s := by
  rw [step_of_notLLSym hs (by simp [hf]), fetchElement, hf]
  rfl

/-- Settles O18: the symbol latches EOB, and BLOCK_END goes by BFINAL (R198, R263). -/
theorem endOfBlock_and_blockEnd : Obligations.EndOfBlock := by
  refine ⟨fun s => rfl, fun s hs hf => ?_⟩
  rw [step_blockEnd hs hf]
  exact ⟨fun hfinal => if_pos hfinal, fun hmore => if_neg (by simp [hmore])⟩

/-! ### Words of the spec -/

/-- The word that encodes an instruction, with no bits behind it, decodes to it. -/
theorem decode_of_encode {i : Instr} {w n : Nat} (hwf : WellFormed i) (henc : encode (placeLens i.slot) i = (w, n)) :
    decode i.slot (placeTable i.slot) (BitVec.ofNat 32 w) = .ok (i, n) := by
  have h := decodeEncode i 0 hwf
  rwa [henc, Nat.mul_zero, Nat.add_zero] at h

/-- Settles O43: each word is its instruction's encoding, the symbols in the fixed code (R102), so it decodes to that instruction. -/
theorem specWordsDecode : Obligations.SpecWordsDecode := by
  refine ⟨?_, ?_, ?_, ?_, ?_, ?_, ?_, ?_⟩
  · exact decode_of_encode (i := .blockFixed true) (by decide) (by decide)
  · exact decode_of_encode (i := .blockReserved false) (by decide) (by decide)
  · exact decode_of_encode (i := .dynHdr 0 0 14) (by decide) (by decide)
  · exact decode_of_encode (i := .storedLen 3 0xFFFC) (by decide) (by decide)
  · exact decode_of_encode (i := .lit97) (by decide) (by decide +kernel)
  · exact decode_of_encode (i := .eob) (by decide) (by decide +kernel)
  · exact decode_of_encode (i := .dist4 1) (by decide) (by decide +kernel)
  · exact decode_of_encode (i := .distInvalid31) (by decide) (by decide +kernel)

end Sys2Proof.Machine
end

section
/-! PROOF. The lengths of a dynamic block as a whole (R222 to R225, R229): the end of DYN_CLL, a repeat with no predecessor, and the
building of the two tables. -/

namespace Sys2Proof.Machine

/-! ### The end of DYN_CLL (R222, R223) -/

theorem getLen_clearTail {s : State} {ks : List Nat} (h : ∀ k ∈ ks, k < 320) (j : Nat) :
    (s.clearTail ks).getLen j = if j ∈ ks then 0 else s.getLen j := by
  induction ks generalizing s with
  | nil => rfl
  | cons k ks ih =>
    obtain ⟨hk, hks⟩ := List.forall_mem_cons.mp h
    rw [State.clearTail, ih hks, getLen_setLen hk]
    by_cases hj : j ∈ ks
    · rw [if_pos hj, if_pos (List.mem_cons_of_mem k hj)]
    · rw [if_neg hj]
      exact if_congr (by simp [hj]) rfl rfl

/-- The order names only the nineteen CL symbols (R95). -/
theorem lt_of_mem_clOrder : ∀ k ∈ clOrder, k < 19 := by decide

/-- The order names no symbol twice (R95). -/
theorem clOrder_nodup : clOrder.Nodup := by decide

/-- The symbols past the first `n` of the order are those whose turn is not before `n`. -/
theorem mem_drop_clOrder {j : Nat} (hj : j < 19) (n : Nat) : clOrder.getD j 0 ∈ clOrder.drop n ↔ ¬ j < n := by
  have hj' : j < clOrder.length := hj
  rw [List.getD_eq_getElem _ _ hj', List.mem_drop_iff_getElem]
  constructor
  · rintro ⟨k, hk, heq⟩
    have := clOrder_nodup.getElem_inj_iff.mp heq
    omega
  · intro hnj
    exact ⟨j - n, by omega, by simp only [Nat.add_sub_cancel' (Nat.not_lt.mp hnj)]⟩

theorem buildTab0_ok {A : Alphabet} {lens : List Nat} {s : State} {t : Table} (h : build s.par A lens = .ok t)
    (k : State → Result) : buildTab0 A lens s k = k { s with tab0 := t } := by
  simp only [buildTab0, h]

theorem buildTab0_error {A : Alphabet} {lens : List Nat} {s : State} {e : BuildError} (h : build s.par A lens = .error e)
    (k : State → Result) : buildTab0 A lens s k = .next (s.raise e.status) := by
  simp only [buildTab0, h]

theorem buildTab1_ok {A : Alphabet} {lens : List Nat} {s : State} {t : Table} (h : build s.par A lens = .ok t)
    (k : State → Result) : buildTab1 A lens s k = k { s with tab1 := t } := by
  simp only [buildTab1, h]

theorem buildTab1_error {A : Alphabet} {lens : List Nat} {s : State} {e : BuildError} (h : build s.par A lens = .error e)
    (k : State → Result) : buildTab1 A lens s k = .next (s.raise e.status) := by
  simp only [buildTab1, h]

/-- The pass of DYN_CLL with all its lengths read. -/
theorem step_cllDone {s : State} (hs : s.Decoding) (hf : s.fsm = .dynCll) (hi : s.loc.hclen.toNat ≤ s.loc.i.toNat) :
    step s = cllDone s := by
  rw [step_of_notLLSym hs (by simp [hf]), fetchElement, hf]
  exact congrArg Fetched.run (if_neg (Nat.not_lt.mpr hi))

/-- Settles O22: the tail of the order is what was not transmitted, and the build is of what then stands (R222, R223). -/
theorem cllTableBuilt : Obligations.CllTableBuilt := by
  intro s hs hf hi
  have hmem : ∀ k ∈ clOrder.drop s.loc.hclen.toNat, k < 19 := fun k hk => lt_of_mem_clOrder k (List.mem_of_mem_drop hk)
  have hget := getLen_clearTail (s := s) fun k hk => (hmem k hk).trans (by decide)
  have hframe := clearTail_frame s (clOrder.drop s.loc.hclen.toNat)
  have hpar := congrArg State.par hframe
  have hloc := congrArg State.loc hframe
  refine ⟨_, hframe, fun j hj => ?_, fun j hj => ?_, fun t0 hb => ?_, fun e hb => ?_⟩
  · rw [hget]
    by_cases hjn : j < s.loc.hclen.toNat
    · rw [if_pos hjn, if_neg fun h => (mem_drop_clOrder hj _).mp h hjn]
    · rw [if_neg hjn, if_pos ((mem_drop_clOrder hj _).mpr hjn)]
  · rw [hget, if_neg fun h => absurd (hmem j h) (Nat.not_lt.mpr hj)]
  · rw [step_cllDone hs hf hi, cllDone, buildTab0_ok (by rw [hpar]; exact hb), hloc]
  · rw [step_cllDone hs hf hi, cllDone, buildTab0_error (by rw [hpar]; exact hb)]

/-! ### Repeats at the ends (R225) -/

/-- A symbol 16 decoded with no length before it is reported as it is decoded. -/
theorem step_noPredecessor {s t : State} {y : Symbol} (hs : s.Decoding) (hf : s.fsm = .dynLensSym) (hi : s.loc.i = 0)
    (htot : s.lensTotal ≠ 0) (hsym : decodeSym s.tab0 s = .val y t) (hk : entryKind y.entry = .lit)
    (hp : entryPayload y.entry = 16) : step s = .next (t.raise .badCodeLengthRepeat) := by
  have hfirst : s.loc.i.toNat ≠ s.lensTotal := by
    rw [hi]
    exact htot.symm
  have hti : t.loc.i = 0 := by
    rw [((decodeSym_frame _ s).1 y t hsym).same]
    exact hi
  rw [step_of_notLLSym hs (by simp [hf]), fetchElement, hf]
  show (fetchCL s).run = _
  rw [run_fetchCL hfirst, hsym, Res.run, clRest, hp, if_neg (not_not_intro hk), if_neg (by decide), if_pos ⟨rfl, hti⟩]

/-- A run of zeros that the total admits needs no length before it (R225 to R227). -/
theorem exec_firstZeros {i : Instr} {n x cnt : Nat} {s : State} (hi : i.shape = .cl n x)
    (hn : n = 17 ∧ cnt = 3 + x ∨ n = 18 ∧ cnt = 11 + x) (h0 : s.loc.i = 0) (hfit : cnt ≤ s.lensTotal) (hlt : cnt < 512) :
    ∃ t, exec i s = .next t ∧ t.busy = s.busy ∧ t.loc.i.toNat = cnt := by
  have hcnt : repeatCount (BitVec.ofNat 5 n).toNat x = cnt := by
    rcases hn with ⟨rfl, rfl⟩ | ⟨rfl, rfl⟩ <;> rfl
  have hz : s.loc.i.toNat = 0 := by rw [h0]; rfl
  have hadd : (s.loc.i + BitVec.ofNat 9 cnt).toNat = cnt := by rw [toNat_add_ofNat (by omega), hz, Nat.zero_add]
  subst hcnt
  have hwithin : s.loc.i.toNat + repeatCount (BitVec.ofNat 5 n).toNat x ≤ s.lensTotal := by omega
  rw [exec_repeat hi (by omega) (by omega)]
  refine ⟨_, if_neg (Nat.not_lt.mpr hwithin), ?_, ?_⟩
  · rw [fillLens_frame]
    rfl
  · rw [fillLens_frame]
    exact hadd

/-- Settles O25: the error comes before the field, zeros need nothing before them, and the length before I = HLIT is the last
literal/length one (R225). -/
theorem repeatPredecessor : Obligations.RepeatPredecessor := by
  refine ⟨fun s s1 y => step_noPredecessor, fun s x h0 hfit => ?_, fun s x h0 hfit => ?_, fun s x hi hlit hfit htot => ?_⟩
  · exact exec_firstZeros (i := .clRepZ3 x) (n := 17) rfl (.inl ⟨rfl, rfl⟩) h0 hfit (by omega)
  · exact exec_firstZeros (i := .clRepZ11 x) (n := 18) rfl (.inr ⟨rfl, rfl⟩) h0 hfit (by omega)
  · have hne : s.loc.i ≠ 0 := fun h => by simp [← hi, h] at hlit
    obtain ⟨hrun, -⟩ := repeatSymbols (.clRepPrev x) 16 x.toNat (3 + x.toNat) s rfl (.inl ⟨rfl, rfl, hne⟩)
    rw [hi] at hrun
    obtain ⟨t, ht, heq, hlens⟩ := hrun (by omega) htot
    have hbusy := congrArg State.busy heq
    refine ⟨t, ht, hbusy, ?_⟩
    rw [hlens _ (by omega), if_pos (by omega), if_pos rfl]

/-! ### The two tables (R224, R229) -/

/-- The pass of DYN_BUILD (R229). -/
theorem step_dynBuild {s : State} (hs : s.Decoding) (hf : s.fsm = .dynBuild) : step s = dynBuild s := by
  rw [step_of_notLLSym hs (by simp [hf]), fetchElement, hf]
  rfl

/-- Settles O26: the lengths are all read where I is their total, and each check of DYN_BUILD stands before the next (R229, R377). -/
theorem dynBuildOrder : Obligations.DynBuildOrder := by
  refine ⟨fun s hs hf hi => ?_, fun s hs hf => ?_⟩
  · rw [step_of_notLLSym hs (by simp [hf]), fetchElement, hf]
    exact congrArg Fetched.run (if_pos hi)
  · rw [step_dynBuild hs hf]
    refine ⟨fun h0 => if_pos h0, fun h0 e hll => ?_, fun h0 t0 hll => ⟨fun e hd => ?_, fun t1 hd => ?_⟩⟩
    all_goals rw [dynBuild, if_neg h0]
    · exact buildTab0_error hll _
    · exact (buildTab0_ok hll _).trans (buildTab1_error (s := { s with tab0 := t0 }) hd _)
    · exact (buildTab0_ok hll _).trans (buildTab1_ok (s := { s with tab0 := t0 }) hd _)

end Sys2Proof.Machine
end

section
/-! PROOF. The two symbols that put bytes out (R261, R262, R265, R266, R301, R302, R374): a literal, with room for its byte and
without, and a distance symbol, whose match completes, fills the output or is never begun. -/

namespace Sys2Proof.Machine

/-! ### Literals -/

/-- A byte past the address space is the fault (R60, R301). -/
theorem litOut_faults {s : State} (hroom : s.port.dstPtr ≠ s.port.dstEnd) (hsp : s.inSpace s.port.dstPtr = false) :
    litOut s = .fault .noSuchAddress := by
  rw [litOut, if_neg hroom, emit, if_neg (by simp [hsp])]
  rfl

/-- Settles O27: a literal is latched, then it is LIT_OUT's byte, for which there is an address, none, or no room. -/
theorem literalSymbols : Obligations.LiteralSymbols := by
  intro i n x s hi hn
  rw [exec_of_shape hi, shapeMeaning, if_pos hn, literal]
  exact ⟨fun hroom hsp => litOut_emits hroom hsp, fun hroom hsp => litOut_faults hroom hsp, fun hfull => if_pos hfull⟩

/-! ### Distances -/

/-- The state in which a distance symbol's `DIST` is checked against the history (R265, R266). -/
def State.latchedMatch (s : State) (n d : Nat) : State :=
  { s with
    loc := { s.loc with
      dbase := BitVec.ofNat 15 (distBase.getD n 0), dnx := BitVec.ofNat 4 (distExtra.getD n 0), dist := BitVec.ofNat 16 d },
    fsm := .distExtra }

/-- A distance beyond the history is an error, and nothing is copied (R266, R374). -/
theorem exec_distance_far {i : Instr} {n x d : Nat} {s : State} (hi : i.shape = .dist n x) (hn : n < 30)
    (hd : d = distBase.getD n 0 + x) (hfar : s.win.hfill.toNat < d) :
    exec i s = .next ((s.latchedMatch n d).raise .badDistance) := by
  obtain ⟨-, -, hsum⟩ := distance_range hi hn
  rw [exec_of_shape hi, shapeMeaning, if_pos hn, distSymbol]
  exact finishDist_far (t := s.latchDist _ _) (hsum.trans hd.symm) (.inr hfar)

/-- No distance reaches further than the history's 32768 bytes (R105). -/
theorem distance_le {i : Instr} {n x : Nat} (hi : i.shape = .dist n x) (hn : n < 30) : distBase.getD n 0 + x ≤ 32768 := by
  have hx : x < 2 ^ distExtra.getD n 0 := extra_lt (A := .d) hi
  obtain ⟨-, hsum, -⟩ := distBase_range n hn
  omega

/-- A copy without room for all its bytes copies those that fit and suspends behind them (R302). -/
theorem copyRun_suspends {s : State} (hd : s.port.dstPtr ≤ s.port.dstEnd) (hsp : s.port.dstEnd ≤ 2 ^ s.par.addrW)
    (hshort : s.port.dstEnd < s.port.dstPtr + s.loc.rem.toNat) :
    copyRun s = .next ((copiedTimes (s.port.dstEnd - s.port.dstPtr) s).suspend .shortWrite) := by
  rw [copyRun, copyLoop_eq _ s hd hsp, min_eq_right (by omega), State.copyEnd, if_neg (by omega)]

/-- Settles O31: the distance is checked before the copy begins, and the copy's bytes that fit are those of a match with room. -/
theorem distanceStops : Obligations.DistanceStops := by
  intro i n x d s hi hn hd
  refine ⟨exec_distance_far hi hn hd, fun hle hcur hsp hshort => ?_⟩
  have hd16 : d ≤ 32768 := hd ▸ distance_le hi hn
  have hlen : s.loc.length.toNat < 2 ^ 9 := s.loc.length.isLt
  have hrem : (s.beginCopy n d).loc.rem.toNat = s.loc.length.toNat := Nat.mod_eq_of_lt (by omega)
  have hdist : (s.beginCopy n d).loc.dist.toNat = d := Nat.mod_eq_of_lt (by omega)
  have hframe := copiedTimes_frame (s.port.dstEnd - s.port.dstPtr) (s.beginCopy n d)
  refine ⟨_, (exec_distance hi hn hd hle).trans (copyRun_suspends hcur hsp (by rw [hrem]; exact hshort)), ⟨rfl, rfl, rfl⟩,
    (congrArg State.fsm hframe :), (congrArg State.disabled hframe :),
    (congrArg (·.port.dstPtr) hframe).trans (Nat.add_sub_of_le hcur), ?_, (congrArg (·.loc.dist) hframe :),
    (congrArg State.bits hframe :), (congrArg State.nbits hframe :), (congrArg (·.port.srcPtr) hframe :),
    copiedTimes_hidx _ _, fun hfill => copiedTimes_hfill _ hfill, fun hm => ⟨fun k hk => ?_, fun a ha => ?_⟩⟩
  · have hleft := congrArg (·.loc.rem.toNat) hframe
    simp only [BitVec.toNat_sub, BitVec.toNat_ofNat, hrem] at hleft
    exact hleft.trans (by omega)
  · have hcopy := copiedTimes_read_copy (s := s.beginCopy n d) hm (by omega) hk
    rwa [hdist] at hcopy
  · have hout : ¬ (s.port.dstPtr ≤ a ∧ a < s.port.dstPtr + (s.port.dstEnd - s.port.dstPtr)) := by omega
    exact (copiedTimes_read _ (s := s.beginCopy n d) hm a).trans (if_neg hout)

/-- A copy answers with some of its bytes copied: all of them, back in LL_SYM, or as many as fit, suspended (R302). -/
theorem copyRun_answers {s t : State} (h : copyRun s = .next t) :
    ∃ k, t = { copiedTimes k s with fsm := .llSym } ∨ t = (copiedTimes k s).suspend .shortWrite :=
  copyLoop_induct (P := fun u => ∃ k, u = copiedTimes k s)
    (Q := fun u => ∃ k, u = { copiedTimes k s with fsm := .llSym } ∨ u = (copiedTimes k s).suspend .shortWrite)
    (fun _ ⟨k, hk⟩ => ⟨k, .inl (by rw [hk])⟩) (fun _ ⟨k, hk⟩ _ => ⟨k, .inr (by rw [hk])⟩)
    (fun _ ⟨k, hk⟩ _ => ⟨k + 1, by rw [hk, copiedTimes_succ]⟩) _ s t ⟨0, rfl⟩ h

/-- Settles O32: the error leaves all but its latches, the copy all but its bytes and their count; only the error disables. -/
theorem distanceFrame : Obligations.DistanceFrame := by
  intro i n x s t hi hn h
  rcases Nat.lt_or_ge s.win.hfill.toNat (distBase.getD n 0 + x) with hfar | hnear
  · rw [exec_distance_far hi hn rfl hfar] at h
    cases h
    exact ⟨rfl, fun _ => by simp [State.latchedMatch]⟩
  · rw [exec_distance hi hn rfl hnear] at h
    obtain ⟨k, rfl | rfl⟩ := copyRun_answers h
    all_goals rw [copiedTimes_frame]
    · exact ⟨rfl, fun hb => by simp [State.beginCopy, hb]⟩
    · exact ⟨rfl, fun _ => by simp [State.beginCopy]⟩

end Sys2Proof.Machine
end
section
/-! PROOF. The history behind the output (R300 to R304): an appended byte is the newest, and the bytes a step puts out are the newest of
the history, in order. A move that leaves the output cursor alone has put nothing out; what is left are the byte emitted and the copy. -/

namespace Sys2Proof.Machine

/-- Settles O6: the ring's position goes round, its fill count saturates, and each older byte is one further back. -/
theorem historyAppend : Obligations.HistoryAppend := by
  intro w b _
  refine ⟨?_, toNat_fillCount _, histAt_append_one w b, fun d h1 h2 => histAt_append_succ w b h1 (Nat.lt_succ_of_le h2)⟩
  rw [append_hidx, BitVec.toNat_add]
  rfl

/-! ### What has been put out -/

/-- The bytes put out between `s` and `t` are the newest of the history. -/
def Recorded (s t : State) : Prop :=
  s.MemOk → ∀ d, 1 ≤ d → d ≤ t.port.dstPtr - s.port.dstPtr → d ≤ 32768 → t.mem.read (t.port.dstPtr - d) = t.win.histAt d

theorem Still.dstPtr {s t : State} (h : Still s t) : t.port.dstPtr = s.port.dstPtr := by rw [h.port]

theorem recorded_of_unmoved {s t : State} (h : t.port.dstPtr = s.port.dstPtr) : Recorded s t := fun _ d h1 h2 => by omega

theorem recorded_emitted (b : Byte) (s : State) : Recorded s (s.emitted b) := by
  intro hm d h1 h2 _
  simp only [State.emitted_port, Nat.add_sub_cancel_left] at h2
  obtain rfl : d = 1 := Nat.le_antisymm h2 h1
  simp only [State.emitted_mem, State.emitted_port, State.emitted_win, Nat.add_sub_cancel, Mem.read_write hm, if_true]
  exact (histAt_append_one _ b).symm

/-- The copy puts the same bytes out as it appends (R302). -/
theorem recorded_copiedTimes (k : Nat) (s : State) : Recorded s (copiedTimes k s) := by
  intro hm d h1 h2 h3
  have hdst : (copiedTimes k s).port.dstPtr = s.port.dstPtr + k := by rw [copiedTimes_frame]
  rw [hdst] at h2 ⊢
  rw [copiedTimes_read k hm, if_pos (by omega), copiedTimes_histAt k s h1 h3, if_neg (by omega)]
  exact congrArg (copyByte s) (by omega)

/-- Every next state of `o` has recorded what was put out since `s`. -/
abbrev RecordedTo (s : State) (o : Result) : Prop := Gives (Recorded s) o

/-- From where nothing has been put out yet. -/
theorem RecordedTo.after {s t : State} {o : Result} (k : RecordedTo t o) (h : Still s t) : RecordedTo s o :=
  k.mono fun u hu hm => by
    rw [← h.dstPtr]
    exact hu (by rw [State.MemOk, h.mem]; exact hm)

theorem recordedTo_unmoved {s t : State} (h : t.port.dstPtr = s.port.dstPtr) : RecordedTo s (.next t) :=
  gives_next (recorded_of_unmoved h)

theorem Inner.recordedTo {op : State → Result} (h : Inner op) (s : State) : RecordedTo s (op s) := by
  obtain ⟨t, ht⟩ := h s
  rw [ht.answer]
  exact recordedTo_unmoved ht.still.dstPtr

/-! ### Reads -/

theorem recordedTo_inputExhausted {s t : State} (h : t.port.dstPtr = s.port.dstPtr) : RecordedTo s (.next t.inputExhausted) := by
  rcases inputExhausted_cases t with he | he <;> rw [he] <;> exact recordedTo_unmoved h

theorem ReadStop.recordedTo {s : State} {o : Result} (h : ReadStop s o) : RecordedTo s o := by
  cases h with
  | exhausted t ht _ => exact recordedTo_inputExhausted ht.still.dstPtr
  | bitCount t ht | empty t ht => exact recordedTo_unmoved ht.still.dstPtr
  | noAddress => exact gives_fault _

/-- A read, and what the pass does with its value. -/
theorem recordedTo_run {α : Type} {s : State} {r : Res α} {k : α → State → Result}
    (hr : (∀ a t, r = .val a t → BitFrame s t) ∧ ∀ o, r = .stop o → ReadStop s o)
    (hk : ∀ a t, RecordedTo t (k a t)) : RecordedTo s (r.run k) := by
  cases r with
  | val a t => exact (hk a t).after (hr.1 a t rfl).still
  | stop o => exact (hr.2 o rfl).recordedTo

/-! ### Output -/

theorem recordedTo_emit (b : Byte) (s : State) {f : State → State}
    (hf : ∀ t, f t = { t with fsm := (f t).fsm, loc := (f t).loc }) :
    RecordedTo s (andThen (emit b s) fun t => .next (f t)) := by
  rcases emit_cases b s with ⟨-, h⟩ | ⟨-, h⟩ <;> rw [h]
  · refine gives_next ?_
    rw [hf]
    exact recorded_emitted b s
  · exact gives_fault _

theorem recordedTo_litOut (s : State) : RecordedTo s (litOut s) :=
  gives_ite (fun _ => recordedTo_unmoved rfl) fun _ => recordedTo_emit _ s fun _ => rfl

theorem recordedTo_literal (b : Byte) (s : State) : RecordedTo s (literal b s) :=
  (recordedTo_litOut _).after ⟨rfl, rfl, rfl⟩

theorem recordedTo_execStoredByte (b : Byte) (s : State) : RecordedTo s (execStoredByte b s) :=
  gives_ite (fun _ => recordedTo_unmoved rfl) fun _ => recordedTo_emit b s fun _ => rfl

theorem recordedTo_copyRun (s : State) : RecordedTo s (copyRun s) := by
  intro t ht
  obtain ⟨k, rfl | rfl⟩ := copyRun_answers ht
  · exact recorded_copiedTimes k s
  · exact recorded_copiedTimes k s

theorem recordedTo_finishDist (x : Nat) (s : State) : RecordedTo s (finishDist x s) :=
  gives_ite (fun _ => recordedTo_unmoved rfl) fun _ => (recordedTo_copyRun _).after ⟨rfl, rfl, rfl⟩

/-! ### Passes -/

theorem recordedTo_llRest (y : Symbol) (s : State) : RecordedTo s (llRest y s) := by
  unfold llRest
  split
  · exact recordedTo_literal _ s
  · exact inner_endOfBlock.recordedTo s
  · exact (recordedTo_run (take_frame (by omega) _) fun x t => (inner_finishLength x.toNat).recordedTo t).after ⟨rfl, rfl, rfl⟩
  · exact inner_badCode.recordedTo s
  · exact recordedTo_unmoved rfl

theorem recordedTo_distRest (y : Symbol) (s : State) : RecordedTo s (distRest y s) := by
  unfold distRest
  split
  · exact (recordedTo_run (take_frame (by omega) _) fun x t => recordedTo_finishDist x.toNat t).after ⟨rfl, rfl, rfl⟩
  · exact inner_badCode.recordedTo s
  · exact recordedTo_unmoved rfl

theorem recordedTo_clRest (y : Symbol) (s : State) : RecordedTo s (clRest y s) := by
  have hn : repeatExtra (entryPayload y.entry).toNat ≤ 32 := (repeatExtra_le _).trans (by decide)
  refine gives_ite (fun _ => recordedTo_unmoved rfl) fun _ => gives_ite (fun _ => (inner_codeLength _).recordedTo s) fun _ =>
    gives_ite (fun _ => recordedTo_unmoved rfl) fun _ => ?_
  exact RecordedTo.after (t := s.latchRepeat _) (recordedTo_run (take_frame hn _) fun x t =>
    gives_ite (fun _ => (inner_applyRepeat x.toNat).recordedTo t) fun _ => recordedTo_unmoved rfl) ⟨rfl, rfl, rfl⟩

theorem recordedTo_fetchStored (s : State) : RecordedTo s (fetchStored s).run := by
  unfold fetchStored
  split
  · exact recordedTo_unmoved rfl
  split
  · exact recordedTo_unmoved rfl
  split
  · exact recordedTo_inputExhausted rfl
  split
  · exact (recordedTo_execStoredByte _ _).after ⟨rfl, rfl, rfl⟩
  · exact gives_fault _

/-- Every slow pass (R341). -/
theorem recordedTo_fetchElement (s : State) : RecordedTo s (fetchElement s).run := by
  unfold fetchElement
  cases s.fsm <;> dsimp only
  case hdr =>
    rw [run_fetch]
    exact recordedTo_run (take_frame (by omega) s) fun v t => (inner_exec (inside_decodeHeader _)).recordedTo t
  case storedLen =>
    rw [run_fetch]
    exact recordedTo_run (take_frame (by omega) s) fun v t => (inner_execStoredLen _ _).recordedTo t
  case storedCopy => exact recordedTo_fetchStored s
  case fixedInit => exact inner_fixedInit.recordedTo s
  case dynHdr =>
    rw [run_fetch]
    exact recordedTo_run (take_frame (by omega) s) fun v t => (inner_execDynHdr _ _ _).recordedTo t
  case dynCll =>
    unfold fetchCll
    split
    · rw [run_fetch]
      exact recordedTo_run (take_frame (by omega) s) fun v t => recordedTo_unmoved rfl
    · exact inner_cllDone.recordedTo s
  case dynLensSym =>
    by_cases hi : s.loc.i.toNat = s.lensTotal
    · rw [fetchCL, if_pos hi]
      exact recordedTo_unmoved rfl
    · rw [run_fetchCL hi]
      exact recordedTo_run (decodeSym_frame _ s) recordedTo_clRest
  case dynLensExtra =>
    unfold resumeRepeat
    split
    · exact recordedTo_unmoved rfl
    · have hn : repeatExtra s.loc.repsym.toNat ≤ 32 := (repeatExtra_le _).trans (by decide)
      rw [run_fetch]
      exact recordedTo_run (take_frame hn s) fun x t => (inner_applyRepeat x.toNat).recordedTo t
  case dynBuild => exact inner_dynBuild.recordedTo s
  case llSym =>
    rw [run_fetchLL]
    exact recordedTo_run (decodeSym_frame _ s) recordedTo_llRest
  case litOut => exact recordedTo_litOut s
  case lenExtra =>
    rw [run_fetch]
    exact recordedTo_run (take_frame (by omega) s) fun x t => (inner_finishLength x.toNat).recordedTo t
  case distSym =>
    rw [run_fetchDist]
    exact recordedTo_run (decodeSym_frame _ s) recordedTo_distRest
  case distExtra =>
    rw [run_fetch]
    exact recordedTo_run (take_frame (by omega) s) fun x t => recordedTo_finishDist x.toNat t
  case copy => exact recordedTo_copyRun s
  case blockEnd => exact inner_blockEnd.recordedTo s
  case done => exact recordedTo_unmoved rfl

/-! ### Commands, the step -/

/-- No command puts a byte out, ADD_HISTORY's appending included (R305). -/
theorem recordedTo_command (c : BitVec 2) (s : State) : RecordedTo s (exec (decodeCommand c) s) := by
  have hc : c = 0 ∨ c = 1 ∨ c = 2 ∨ c = 3 := by
    revert c
    decide
  rcases hc with rfl | rfl | rfl | rfl
  · exact recordedTo_unmoved rfl
  · intro t ht
    rcases execDecode_next ht with ⟨-, st, rfl⟩ | ⟨-, rfl⟩
    · exact recorded_of_unmoved rfl
    · exact recorded_of_unmoved rfl
  · intro t ht
    obtain ⟨st, heq⟩ := execAddHistory_next ht
    rw [heq]
    exact recorded_of_unmoved rfl
  · exact recordedTo_unmoved rfl

theorem still_readAhead (s : State) : Still s s.readAhead := by
  rw [(readAhead_frame s).2]
  exact ⟨rfl, rfl, rfl⟩

theorem recordedTo_pass (s : State) : RecordedTo s (pass s) := by
  intro t h
  rcases pass_next h with ⟨-, -, hp⟩ | ⟨-, -, -, u, hp, rfl⟩ | ⟨-, hp⟩
  · exact recordedTo_fetchElement s t hp
  · exact (recordedTo_fetchElement s.readAhead).after (still_readAhead s) u hp
  · exact recordedTo_command _ s t hp

theorem step_recorded {s t : State} (h : step s = .next t) : Recorded s t := by
  rcases step_next h with rfl | ⟨-, hp⟩ | ⟨-, u, rfl | ⟨hp, -⟩, rfl⟩
  · exact recorded_of_unmoved rfl
  · exact recordedTo_pass s t hp
  · exact recorded_of_unmoved rfl
  · exact recordedTo_pass s u hp

/-- Settles O53: only the byte emitted and the copy put bytes out, and each appends to the history what it stores. -/
theorem outputIsHistory : Obligations.OutputIsHistory := fun _ _ hm h => step_recorded h hm

end Sys2Proof.Machine
end
section
/-! PROOF. How a pass leaves off (R21, R131, R341, R350, R373, R375): it runs on under the same command, further in the stream or in a
state nearer the next read, or it ends the command, starved of input, with its output full, or with an error. -/

namespace Sys2Proof.Machine

/-! ### The place in the stream -/

/-- `t` stands at least `n` bits further in the stream than `s` (R23). -/
def State.Past (s : State) (n : Nat) (t : State) : Prop :=
  8 * s.port.srcPtr + t.nbits.toNat + n ≤ 8 * t.port.srcPtr + s.nbits.toNat

theorem State.Past.trans {s t u : State} {m n : Nat} (h : s.Past m t) (k : t.Past n u) : s.Past (m + n) u := by
  unfold State.Past at h k ⊢
  omega

theorem State.Past.mono {s t : State} {m n : Nat} (h : s.Past n t) (hmn : m ≤ n) : s.Past m t := by
  unfold State.Past at h ⊢
  omega

theorem past_of_refill {s t : State} (h : refill s = .val () t) : s.Past 0 t := by
  obtain ⟨hn, rfl⟩ := eq_refilled_of_refill h
  rw [State.Past, nbits_refilled hn, State.refilled_port]
  dsimp only
  omega

theorem past_consume {s : State} {n : Nat} (hn : n ≤ s.nbits.toNat) : s.Past n (s.consume n) := by
  rw [State.Past, nbits_consume hn, State.consume_port]
  omega

/-- Refills do not move the place, so a read moves it as what it finds does. -/
theorem ReadsTo.past {α : Type} {found : State → Option (Res α)} {n : Nat}
    (hfound : ∀ s a t, found s = some (.val a t) → s.Past n t) {s t : State} {a : α} (h : ReadsTo found s (.val a t)) :
    s.Past n t := by
  generalize hr : Res.val a t = r at h
  induction h with
  | done h => exact hfound _ _ _ (hr ▸ h)
  | stop => cases hr
  | more _ hrf _ ih => exact ((past_of_refill hrf).trans (ih hr)).mono (by omega)

theorem take_past {n : Nat} (hn : n ≤ 32) {s t : State} {x : Acc} (h : take n s = .val x t) : s.Past n t := by
  refine ReadsTo.past (fun u a v hf => ?_) (h ▸ take_readsTo hn s)
  unfold takeFound at hf
  split at hf
  next => cases hf
  next hle =>
    cases hf
    exact past_consume (Nat.not_lt.mp hle)

/-- Where every entry consumes a bit, so does every code (R150, R162). -/
theorem lookup_pos {tab : Table} (htab : TableProgress tab) {w : Acc} (he : entryKind (lookup tab w).1 ≠ .empty) :
    1 ≤ (lookup tab w).2 := by
  revert he
  unfold lookup
  dsimp only
  split
  · exact fun _ => by dsimp only; omega
  · exact htab _

theorem symFound_past {tab : Table} {s t : State} {y : Symbol} (h : symFound tab s = some (.val y t)) :
    s.Past 0 t ∧ (TableProgress tab → s.Past 1 t) := by
  unfold symFound at h
  split at h
  next => cases h
  next he =>
    split at h
    next hle =>
      cases h
      exact ⟨(past_consume hle).mono (Nat.zero_le _), fun htab => (past_consume hle).mono (lookup_pos htab he)⟩
    next => cases h

theorem decodeSym_past {tab : Table} {s t : State} {y : Symbol} (h : decodeSym tab s = .val y t) :
    s.Past 0 t ∧ (TableProgress tab → s.Past 1 t) :=
  have hread := h ▸ decodeSym_readsTo tab s
  ⟨hread.past fun _ _ _ hf => (symFound_past hf).1, fun htab => hread.past fun _ _ _ hf => (symFound_past hf).2 htab⟩

/-! ### The ways to leave off -/

/-- The states a read of the input can leave in FSM (R350). -/
def Fsm.awaitsInput : Fsm → Bool
  | .fixedInit | .dynBuild | .litOut | .copy | .blockEnd | .done => false
  | _ => true

/-- The states that put bytes out (R350). -/
def Fsm.putsOut : Fsm → Bool
  | .storedCopy | .litOut | .copy => true
  | _ => false

/-- `t` is where the engine has got to from `s` under the same command. -/
structure Follows (s t : State) : Prop where
  past : s.Past 0 t
  busy : t.busy = s.busy
  decoding : t.decoding = s.decoding
  disabled : t.disabled = s.disabled

/-- A move from `s` runs on to a state that has `Q`, or ends the command: starved of input, its output full, or with an error. -/
inductive Leaves (Q : State → Prop) (s : State) : State → Prop where
  | runs {t : State} (h : Follows s t) (hq : Q t) : Leaves Q s t
  | starves {t : State} (hd : t.disabled = s.disabled) (he : t.port.srcPtr = t.port.srcEnd) (hf : t.fsm.awaitsInput = true) :
      Leaves Q s (t.suspend .shortRead)
  | fills {t : State} (hd : t.disabled = s.disabled) (he : t.port.dstPtr = t.port.dstEnd) (hf : t.fsm.putsOut = true) :
      Leaves Q s (t.suspend .shortWrite)
  | raises {t : State} (hf : t.fsm ≠ .done) {e : Status} (he : 0x10 ≤ e.code.toNat) : Leaves Q s (t.raise e)

/-- Every next state of `o` is left so. -/
abbrev LeavesTo (Q : State → Prop) (s : State) (o : Result) : Prop := Gives (Leaves Q s) o

/-- The stream is not finished. -/
abbrev State.Unfinished (s : State) : Prop := s.fsm ≠ .done

theorem Follows.refl (s : State) : Follows s s := ⟨Nat.le_refl _, rfl, rfl, rfl⟩

/-- An update that leaves the place in the stream and the command alone. -/
theorem Follows.update {s t : State}
    (h : (t.port.srcPtr, t.nbits, t.busy, t.decoding, t.disabled) = (s.port.srcPtr, s.nbits, s.busy, s.decoding, s.disabled)) :
    Follows s t := by
  simp only [Prod.mk.injEq] at h
  obtain ⟨hsrc, hn, hb, hd, hdis⟩ := h
  refine ⟨?_, hb, hd, hdis⟩
  rw [State.Past, hsrc, hn, Nat.add_zero]

theorem Follows.trans {s t u : State} (h : Follows s t) (k : Follows t u) : Follows s u :=
  ⟨h.past.trans k.past, k.busy.trans h.busy, k.decoding.trans h.decoding, k.disabled.trans h.disabled⟩

theorem BitFrame.follows {s t : State} (h : BitFrame s t) (hp : s.Past 0 t) : Follows s t :=
  ⟨hp, by rw [h.same], by rw [h.same], by rw [h.same]⟩

/-- A move from where the engine has got to is a move from where it began. -/
theorem Leaves.from_follows {Q Q' : State → Prop} {s t u : State} (k : Leaves Q t u) (h : Follows s t)
    (hq : ∀ v, Follows t v → Q v → Q' v) : Leaves Q' s u := by
  cases k with
  | runs k hv => exact .runs (h.trans k) (hq _ k hv)
  | starves hd he hf => exact .starves (hd.trans h.disabled) he hf
  | fills hd he hf => exact .fills (hd.trans h.disabled) he hf
  | raises hf he => exact .raises hf he

theorem Leaves.mono {Q Q' : State → Prop} {s t : State} (h : Leaves Q s t) (hq : ∀ u, Q u → Q' u) : Leaves Q' s t :=
  h.from_follows (.refl s) fun u _ => hq u

theorem Leaves.after {Q : State → Prop} {s t u : State} (k : Leaves Q t u) (h : Follows s t) : Leaves Q s u :=
  k.from_follows h fun _ _ => id

/-- From where a read has got to, whatever runs on is as far. -/
theorem Leaves.afterRead {Q : State → Prop} {P : Prop} {n : Nat} {s t u : State} (k : Leaves Q t u) (h : Follows s t)
    (hp : P → s.Past n t) : Leaves (fun v => Q v ∧ (P → s.Past n v)) s u :=
  k.from_follows h fun _ hv hq => ⟨hq, fun hP => (hp hP).trans hv.past⟩

theorem LeavesTo.mono {Q Q' : State → Prop} {s : State} {o : Result} (h : LeavesTo Q s o) (hq : ∀ u, Q u → Q' u) :
    LeavesTo Q' s o := Gives.mono h fun _ ht => ht.mono hq

theorem LeavesTo.after {Q : State → Prop} {s t : State} {o : Result} (k : LeavesTo Q t o) (h : Follows s t) : LeavesTo Q s o :=
  Gives.mono k fun _ hu => hu.after h

theorem leavesTo_runs {Q : State → Prop} {s t : State} (h : Follows s t) (hq : Q t) : LeavesTo Q s (.next t) :=
  gives_next (.runs h hq)

theorem leavesTo_raise {Q : State → Prop} {s t : State} (hf : t.Unfinished) {e : Status} (he : 0x10 ≤ e.code.toNat) :
    LeavesTo Q s (.next (t.raise e)) := gives_next (.raises hf he)

theorem leavesTo_full {Q : State → Prop} {s : State} (he : s.port.dstPtr = s.port.dstEnd) (hf : s.fsm.putsOut = true) :
    LeavesTo Q s (.next (s.suspend .shortWrite)) := gives_next (.fills rfl he hf)

theorem unfinished_of_awaitsInput {s : State} (h : s.fsm.awaitsInput = true) : s.Unfinished := by
  intro hf
  rw [hf] at h
  cases h

/-! ### Reads -/

theorem leaves_inputExhausted {Q : State → Prop} {s t : State} (hd : t.disabled = s.disabled)
    (he : t.port.srcPtr = t.port.srcEnd) (hf : t.fsm.awaitsInput = true) : Leaves Q s t.inputExhausted := by
  rcases inputExhausted_cases t with h | h <;> rw [h]
  · exact .starves hd he hf
  · exact .raises (unfinished_of_awaitsInput hf) (by decide)

theorem ReadStop.leavesTo {Q : State → Prop} {s : State} {o : Result} (h : ReadStop s o) (hf : s.fsm.awaitsInput = true) :
    LeavesTo Q s o := by
  have hsame {t : State} (ht : BitFrame s t) : t.disabled = s.disabled ∧ t.fsm = s.fsm := by
    rw [ht.same]
    exact ⟨rfl, rfl⟩
  cases h with
  | exhausted t ht he => exact gives_next (leaves_inputExhausted (hsame ht).1 he ((hsame ht).2 ▸ hf))
  | bitCount t ht | empty t ht => exact leavesTo_raise (unfinished_of_awaitsInput ((hsame ht).2 ▸ hf)) (by decide)
  | noAddress => exact gives_fault _

/-- A read, and what the pass does with its value. -/
theorem leavesTo_run {α : Type} {Q : State → Prop} {P : Prop} {n : Nat} {s : State} {r : Res α} {k : α → State → Result}
    (hf : s.fsm.awaitsInput = true)
    (hr : (∀ a t, r = .val a t → BitFrame s t) ∧ ∀ o, r = .stop o → ReadStop s o)
    (hp : ∀ a t, r = .val a t → s.Past 0 t ∧ (P → s.Past n t)) (hk : ∀ a t, t.fsm = s.fsm → LeavesTo Q t (k a t)) :
    LeavesTo (fun u => Q u ∧ (P → s.Past n u)) s (r.run k) := by
  cases r with
  | val a t =>
    have hb := hr.1 a t rfl
    obtain ⟨h0, hn⟩ := hp a t rfl
    exact Gives.mono (hk a t (by rw [hb.same])) fun u hu => hu.afterRead (hb.follows h0) hn
  | stop o => exact (hr.2 o rfl).leavesTo hf

theorem leavesTo_take {Q : State → Prop} {n : Nat} (hn : n ≤ 32) {s : State} {k : Acc → State → Result}
    (hf : s.fsm.awaitsInput = true) (hk : ∀ x t, t.fsm = s.fsm → LeavesTo Q t (k x t)) :
    LeavesTo (fun u => Q u ∧ (s.TablesOk → s.Past n u)) s ((take n s).run k) :=
  leavesTo_run hf (take_frame hn s) (fun _ _ h => ⟨(take_past hn h).mono (Nat.zero_le _), fun _ => take_past hn h⟩) hk

theorem leavesTo_decodeSym {Q : State → Prop} {tab : Table} {s : State} {k : Symbol → State → Result}
    (hf : s.fsm.awaitsInput = true) (htab : s.TablesOk → TableProgress tab) (hk : ∀ y t, t.fsm = s.fsm → LeavesTo Q t (k y t)) :
    LeavesTo (fun u => Q u ∧ (s.TablesOk → s.Past 1 u)) s ((decodeSym tab s).run k) :=
  leavesTo_run hf (decodeSym_frame tab s) (fun _ _ h => ⟨(decodeSym_past h).1, fun hT => (decodeSym_past h).2 (htab hT)⟩) hk

/-! ### Blocks -/

theorem leavesTo_header (v : BitVec 3) {s : State} (hf : s.Unfinished) :
    LeavesTo State.Unfinished s (exec (decodeHeader v) s) := by
  unfold decodeHeader
  split
  · show LeavesTo _ s (alignToStored _)
    unfold alignToStored
    rcases align_cases (s.latchHeader 0 (v.getLsbD 0)) fun t => .next { t with fsm := .storedLen } with h | h <;> rw [h]
    · exact leavesTo_runs ⟨Nat.add_le_add_left (Nat.zero_le _) _, rfl, rfl, rfl⟩ nofun
    · exact leavesTo_raise (by exact hf) (by decide)
  · exact leavesTo_runs (.update rfl) nofun
  · exact leavesTo_runs (.update rfl) nofun
  · exact leavesTo_raise (by exact hf) (by decide)

theorem leavesTo_execStoredLen (len nlen : BitVec 16) {s : State} (hf : s.Unfinished) :
    LeavesTo State.Unfinished s (execStoredLen len nlen s) :=
  gives_ite (fun _ => leavesTo_raise hf (by decide)) fun _ => leavesTo_runs (.update rfl) nofun

/-- A byte put out, and what follows it. -/
theorem leavesTo_emit {Q : State → Prop} (b : Byte) {s : State} {f : State → State} (hf : ∀ t, Follows t (f t))
    (hq : Q (f (s.emitted b))) : LeavesTo Q s (andThen (emit b s) fun t => .next (f t)) := by
  rcases emit_cases b s with ⟨-, h⟩ | ⟨-, h⟩ <;> rw [h]
  · exact leavesTo_runs (Follows.trans (t := s.emitted b) (.update rfl) (hf _)) hq
  · exact gives_fault _

theorem leavesTo_execStoredByte (b : Byte) {s : State} (hf : s.fsm = .storedCopy) :
    LeavesTo State.Unfinished s (execStoredByte b s) :=
  gives_ite (fun he => leavesTo_full he (by rw [hf]; rfl)) fun _ =>
    leavesTo_emit b (fun _ => .update rfl) (show s.fsm ≠ .done by simp [hf])

theorem leavesTo_buildTab0 {Q : State → Prop} {A : Alphabet} {lens : List Nat} {s : State} {k : State → Result}
    (hf : s.Unfinished) (hk : ∀ t : State, t.Unfinished → LeavesTo Q t (k t)) : LeavesTo Q s (buildTab0 A lens s k) := by
  unfold buildTab0
  split
  · exact (hk _ (by exact hf)).after (.update rfl)
  · exact leavesTo_raise hf (buildError_code _)

theorem leavesTo_buildTab1 {Q : State → Prop} {A : Alphabet} {lens : List Nat} {s : State} {k : State → Result}
    (hf : s.Unfinished) (hk : ∀ t : State, t.Unfinished → LeavesTo Q t (k t)) : LeavesTo Q s (buildTab1 A lens s k) := by
  unfold buildTab1
  split
  · exact (hk _ (by exact hf)).after (.update rfl)
  · exact leavesTo_raise hf (buildError_code _)

theorem leavesTo_fixedInit {s : State} (hf : s.Unfinished) : LeavesTo (·.fsm = .llSym) s (fixedInit s) := by
  unfold fixedInit
  generalize fixedLens = l
  exact LeavesTo.after (t := { s with lens := l })
    (leavesTo_buildTab0 hf fun _ ht => leavesTo_buildTab1 ht fun _ _ => leavesTo_runs (.update rfl) rfl)
    (.update rfl)

/-- A block that is not the last (R198). -/
theorem leavesTo_blockEnd {s : State} (hb : s.bfinal = false) : LeavesTo (·.fsm = .hdr) s (blockEnd s) := by
  rw [blockEnd, if_neg (by simp [hb])]
  exact leavesTo_runs (.update rfl) rfl

/-! ### The dynamic header -/

theorem leavesTo_execDynHdr (hlit hdist : BitVec 5) (hclen : BitVec 4) {s : State} (hf : s.Unfinished) :
    LeavesTo State.Unfinished s (execDynHdr hlit hdist hclen s) :=
  gives_ite (fun _ => leavesTo_raise (by exact hf) (by decide)) fun _ => leavesTo_runs (.update rfl) nofun

theorem leavesTo_cllDone {s : State} (hf : s.Unfinished) : LeavesTo (·.fsm = .dynLensSym) s (cllDone s) := by
  unfold cllDone
  rw [clearTail_frame]
  exact LeavesTo.after (leavesTo_buildTab0 (by exact hf) fun _ _ => leavesTo_runs (.update rfl) rfl) (.update rfl)

theorem leavesTo_codeLength (n : BitVec 4) {s : State} (hf : s.Unfinished) :
    LeavesTo State.Unfinished s (codeLength n s) := leavesTo_runs (.update rfl) hf

theorem leavesTo_applyRepeat (x : Nat) {s : State} (hf : s.Unfinished) : LeavesTo State.Unfinished s (applyRepeat x s) := by
  unfold applyRepeat
  dsimp only
  rw [fillLens_frame]
  exact gives_ite (fun _ => leavesTo_raise hf (by decide)) fun _ => leavesTo_runs (.update rfl) nofun

theorem leavesTo_dynBuild {s : State} (hf : s.Unfinished) : LeavesTo (·.fsm = .llSym) s (dynBuild s) :=
  gives_ite (fun _ => leavesTo_raise hf (by decide)) fun _ =>
    leavesTo_buildTab0 hf fun _ ht => leavesTo_buildTab1 ht fun _ _ => leavesTo_runs (.update rfl) rfl

theorem leavesTo_clRest (y : Symbol) {s : State} (hf : s.Unfinished) : LeavesTo State.Unfinished s (clRest y s) := by
  unfold clRest
  have hn : repeatExtra (entryPayload y.entry).toNat ≤ 32 := (repeatExtra_le _).trans (by decide)
  refine gives_ite (fun _ => leavesTo_raise hf (by decide)) fun _ => gives_ite (fun _ => leavesTo_codeLength _ hf) fun _ =>
    gives_ite (fun _ => leavesTo_raise hf (by decide)) fun _ => ?_
  refine LeavesTo.after (t := s.latchRepeat _) (LeavesTo.mono (leavesTo_take hn rfl fun x t ht => ?_) fun _ => And.left)
    (.update rfl)
  have ht' : t.Unfinished := by rw [State.Unfinished, ht]; nofun
  exact gives_ite (fun _ => leavesTo_applyRepeat _ ht') fun _ => leavesTo_raise ht' (by decide)

/-! ### Symbols -/

theorem leavesTo_litOut {s : State} (hf : s.fsm = .litOut) : LeavesTo (·.fsm = .llSym) s (litOut s) :=
  gives_ite (fun he => leavesTo_full he (by rw [hf]; rfl)) fun _ =>
    leavesTo_emit (f := fun t => { t with fsm := .llSym }) _ (fun _ => .update rfl) rfl

theorem leavesTo_finishLength (x : Nat) (s : State) : LeavesTo (·.fsm = .distSym) s (finishLength x s) :=
  leavesTo_runs (.update rfl) rfl

theorem leavesTo_copyRun {s : State} (hf : s.fsm = .copy) : LeavesTo (·.fsm = .llSym) s (copyRun s) := fun t =>
  copyLoop_induct (P := fun u => Follows s u ∧ u.fsm = .copy) (Q := Leaves (·.fsm = .llSym) s)
    (fun u h => .runs (h.1.trans (.update rfl)) rfl)
    (fun u h he => .fills h.1.disabled he (by rw [h.2]; rfl))
    (fun u h _ => ⟨h.1.trans (.update rfl), h.2⟩) _ s t ⟨.refl s, hf⟩

theorem leavesTo_finishDist (x : Nat) {s : State} (hf : s.Unfinished) : LeavesTo (·.fsm = .llSym) s (finishDist x s) :=
  gives_ite (fun _ => leavesTo_raise (by exact hf) (by decide)) fun _ => (leavesTo_copyRun rfl).after (.update rfl)

theorem unfinished_of_eq {f : Fsm} {s : State} (h : s.fsm = f) (hf : f ≠ .done) : s.Unfinished := h.trans_ne hf

theorem leavesTo_llRest (y : Symbol) {s : State} (hf : s.Unfinished) : LeavesTo State.Unfinished s (llRest y s) := by
  unfold llRest
  split
  · exact ((leavesTo_litOut rfl).mono fun _ h => unfinished_of_eq h nofun).after (.update rfl)
  · exact leavesTo_runs (.update rfl) nofun
  · exact LeavesTo.after ((leavesTo_take (by omega) rfl fun x t _ => leavesTo_finishLength x.toNat t).mono
      fun _ h => unfinished_of_eq h.1 nofun) (.update rfl)
  · exact leavesTo_raise hf (by decide)
  · exact leavesTo_raise hf (by decide)

theorem leavesTo_distRest (y : Symbol) {s : State} (hf : s.Unfinished) : LeavesTo State.Unfinished s (distRest y s) := by
  unfold distRest
  split
  · exact LeavesTo.after ((leavesTo_take (by omega) rfl fun x t ht =>
      leavesTo_finishDist x.toNat (unfinished_of_eq (f := .distExtra) ht nofun)).mono fun _ h => unfinished_of_eq h.1 nofun)
        (.update rfl)
  · exact leavesTo_raise hf (by decide)
  · exact leavesTo_raise hf (by decide)

/-! ### Every pass -/

/-- The most passes that can follow one another from a state without a bit taken from the stream. -/
def Fsm.moves : Fsm → Nat
  | .dynCll => 3
  | .dynLensSym | .storedCopy => 2
  | .fixedInit | .dynBuild | .litOut | .lenExtra | .distExtra | .copy | .blockEnd => 1
  | _ => 0

/-- `t` is further in the stream than `s`, or in a state nearer the next read; the stream is not finished. -/
structure Onward (s t : State) : Prop where
  unfinished : t.Unfinished
  nearer : s.TablesOk → s.Past 1 t ∨ t.fsm.moves < s.fsm.moves

/-- `t` is where the stream is finished, or was so already (R198, R344). -/
structure Finishes (s t : State) : Prop where
  final : s.fsm = .done ∨ s.fsm = .blockEnd ∧ s.bfinal = true
  busy : t.busy = false
  decoding : t.decoding = false
  disabled : t.disabled = s.disabled
  status : t.port.status = .ok

theorem onward_of_past {s t : State} {n : Nat} (hn : 1 ≤ n) (h : t.Unfinished ∧ (s.TablesOk → s.Past n t)) : Onward s t :=
  ⟨h.1, fun hT => .inl ((h.2 hT).mono hn)⟩

theorem onward_of_fsm {s : State} {f : Fsm} (hf : f ≠ .done) (hm : f.moves < s.fsm.moves) (t : State) (ht : t.fsm = f) :
    Onward s t := ⟨unfinished_of_eq ht hf, fun _ => .inr (by rw [ht]; exact hm)⟩

/-- The ways a slow pass leaves off. -/
inductive Passes (s t : State) : Prop where
  | leaves (h : Leaves (Onward s) s t)
  | finishes (h : Finishes s t)

theorem passes_of_leaves {s : State} {o : Result} (h : LeavesTo (Onward s) s o) : Gives (Passes s) o :=
  Gives.mono h fun _ => .leaves

theorem leavesTo_fetchStored {s : State} (hf : s.fsm = .storedCopy) : LeavesTo (Onward s) s (fetchStored s).run := by
  have hwait : s.fsm.awaitsInput = true := by rw [hf]; rfl
  unfold fetchStored
  split
  · exact leavesTo_runs (.update rfl) (onward_of_fsm (f := .blockEnd) nofun (by rw [hf]; decide) _ rfl)
  split
  next he => exact leavesTo_full he (by rw [hf]; rfl)
  split
  next he => exact gives_next (leaves_inputExhausted rfl he hwait)
  split
  · have hpast : s.Past 8 { s with inLoop := true, port := { s.port with srcPtr := s.port.srcPtr + 1 } } := by
      rw [State.Past]
      dsimp only
      omega
    exact Gives.mono (leavesTo_execStoredByte _ hf) fun u hu =>
      (hu.afterRead ⟨hpast.mono (Nat.zero_le _), rfl, rfl, rfl⟩ fun _ => hpast).mono fun _ => onward_of_past (by decide)
  · exact gives_fault _

/-- A pass that reads a field. -/
theorem passes_take {n : Nat} (h1 : 1 ≤ n) (hn : n ≤ 32) {s : State} {k : Acc → State → Result} (hf : s.fsm.awaitsInput = true)
    (hk : ∀ x t, t.Unfinished → LeavesTo State.Unfinished t (k x t)) : Gives (Passes s) ((take n s).run k) :=
  passes_of_leaves ((leavesTo_take hn hf fun x t ht => hk x t (unfinished_of_awaitsInput (ht ▸ hf))).mono
    fun _ => onward_of_past h1)

/-- A pass that decodes a symbol. -/
theorem passes_decodeSym {tab : Table} {s : State} {k : Symbol → State → Result} (hf : s.fsm.awaitsInput = true)
    (htab : s.TablesOk → TableProgress tab) (hk : ∀ y t, t.Unfinished → LeavesTo State.Unfinished t (k y t)) :
    Gives (Passes s) ((decodeSym tab s).run k) :=
  passes_of_leaves ((leavesTo_decodeSym hf htab fun y t ht => hk y t (unfinished_of_awaitsInput (ht ▸ hf))).mono
    fun _ => onward_of_past (Nat.le_refl 1))

/-- A pass that leads to the state `f`. -/
theorem passes_to {f : Fsm} {s : State} {o : Result} (h : LeavesTo (·.fsm = f) s o) (hf : f ≠ .done)
    (hm : f.moves < s.fsm.moves) : Gives (Passes s) o := passes_of_leaves (h.mono (onward_of_fsm hf hm))

/-- Every pass of the loop (R341). -/
theorem passes_fetchElement (s : State) : Gives (Passes s) (fetchElement s).run := by
  unfold fetchElement
  cases hf : s.fsm <;> dsimp only
  case hdr =>
    rw [run_fetch]
    exact passes_take (by decide) (by decide) (by rw [hf]; rfl) fun v t => leavesTo_header _
  case storedLen =>
    rw [run_fetch]
    exact passes_take (by decide) (by decide) (by rw [hf]; rfl) fun v t => leavesTo_execStoredLen _ _
  case storedCopy => exact passes_of_leaves (leavesTo_fetchStored hf)
  case fixedInit =>
    rw [Fetched.run]
    exact passes_to (leavesTo_fixedInit (by simp [hf])) nofun (by rw [hf]; decide)
  case dynHdr =>
    rw [run_fetch]
    exact passes_take (by decide) (by decide) (by rw [hf]; rfl) fun v t => leavesTo_execDynHdr _ _ _
  case dynCll =>
    unfold fetchCll
    split
    · rw [run_fetch]
      exact passes_take (by decide) (by decide) (by rw [hf]; rfl) fun v t ht => leavesTo_runs (.update rfl) ht
    · exact passes_to (leavesTo_cllDone (by simp [hf])) nofun (by rw [hf]; decide)
  case dynLensSym =>
    by_cases hi : s.loc.i.toNat = s.lensTotal
    · rw [fetchCL, if_pos hi]
      exact passes_to (f := .dynBuild) (leavesTo_runs (.update rfl) rfl) nofun (by rw [hf]; decide)
    · rw [run_fetchCL hi]
      exact passes_decodeSym (by rw [hf]; rfl) And.left fun y t => leavesTo_clRest y
  case dynLensExtra =>
    unfold resumeRepeat
    split
    · exact passes_of_leaves (leavesTo_raise (by simp [hf]) (by decide))
    next h0 =>
      have hn : repeatExtra s.loc.repsym.toNat ≤ 32 := (repeatExtra_le _).trans (by decide)
      rw [run_fetch]
      exact passes_take (Nat.pos_of_ne_zero h0) hn (by rw [hf]; rfl) fun x t => leavesTo_applyRepeat x.toNat
  case dynBuild => exact passes_to (leavesTo_dynBuild (by simp [hf])) nofun (by rw [hf]; decide)
  case llSym =>
    rw [run_fetchLL]
    exact passes_decodeSym (by rw [hf]; rfl) And.left fun y t => leavesTo_llRest y
  case litOut => exact passes_to (leavesTo_litOut hf) nofun (by rw [hf]; decide)
  case lenExtra =>
    rw [run_fetch]
    exact passes_to ((leavesTo_take (by omega) (by rw [hf]; rfl) fun x t _ => leavesTo_finishLength x.toNat t).mono
      fun _ => And.left) nofun (by rw [hf]; decide)
  case distSym =>
    rw [run_fetchDist]
    exact passes_decodeSym (by rw [hf]; rfl) And.right fun y t => leavesTo_distRest y
  case distExtra =>
    rw [run_fetch]
    exact passes_to ((leavesTo_take (by omega) (by rw [hf]; rfl) fun x t ht =>
      leavesTo_finishDist x.toNat (unfinished_of_eq (ht.trans hf) nofun)).mono fun _ => And.left) nofun (by rw [hf]; decide)
  case copy => exact passes_to (leavesTo_copyRun hf) nofun (by rw [hf]; decide)
  case blockEnd =>
    cases hb : s.bfinal with
    | false => exact passes_to (leavesTo_blockEnd hb) nofun (by rw [hf]; decide)
    | true =>
      rw [blockEnd, if_pos hb]
      exact gives_next (.finishes ⟨.inr ⟨hf, hb⟩, rfl, rfl, rfl, rfl⟩)
  case done => exact gives_next (.finishes ⟨.inl hf, rfl, rfl, rfl, rfl⟩)

end Sys2Proof.Machine
end
section
/-! PROOF. Every command ends (R354): a step takes a bit from the stream or moves to a state nearer the next read, and no more than
three moves follow one another. -/

namespace Sys2Proof.Machine

/-! ### Steps of a busy engine -/

/-- A step of a busy engine is a pass, or the report of an interleaving, at once or where a pass has ended (R332). -/
theorem step_of_busy {s t : State} (hb : s.busy = true) (h : step s = .next t) :
    pass s = .next t ∨ ∃ u, (u = s ∨ pass s = .next u) ∧ t = u.raise .interleaved := by
  rcases step_cases s with ⟨hi, -⟩ | ⟨-, -, -, hs⟩ | ⟨-, -, -, hs⟩ | ⟨-, -, hs⟩
  · cases hb.symm.trans hi
  · exact .inr ⟨s, .inl rfl, Host.Outcome.next.inj (h.symm.trans hs)⟩
  · rcases settleOwed_next (hs.symm.trans h) with hp | ⟨u, hp, -, ht⟩
    · exact .inl hp
    · exact .inr ⟨u, .inr hp, ht⟩
  · exact .inl (hs.symm.trans h)

/-- A step after which the command runs on is a pass. -/
theorem pass_of_runs {s t : State} (hb : s.busy = true) (h : step s = .next t) (ht : t.busy = true) : pass s = .next t := by
  rcases step_of_busy hb h with hp | ⟨u, -, rfl⟩
  · exact hp
  · cases ht

/-- How a command that is no pass of the loop leaves off: it resets, enters the loop of DECODE, or ends with FSM and DISABLED as
they are (R330, R341 to R343, R411). -/
inductive Answers (c : BitVec 2) (s : State) : State → Prop where
  | resets {t : State} (hc : c = 0) (hf : t.fsm = .hdr) (hb : t.busy = false) (hst : t.port.status = .ok) : Answers c s t
  | enters (hc : c = 1) : Answers c s s.resume
  | ends {t : State} (hf : t.fsm = s.fsm) (hd : t.disabled = s.disabled) (hb : t.busy = false)
      (hst : t.port.status = .ok ∨ t.port.status = .disabled ∧ s.disabled = true) : Answers c s t

theorem answers_execDecode (s : State) : Gives (Answers 1 s) (execDecode s) :=
  gives_ite (fun hd => gives_next (.ends rfl rfl rfl (.inr ⟨rfl, hd⟩))) fun _ =>
    gives_ite (fun _ => gives_next (.ends rfl rfl rfl (.inl rfl))) fun _ =>
      gives_ite (fun _ => gives_next (.enters rfl)) fun _ => gives_refused _

theorem answers_execAddHistory (s : State) : Gives (Answers 2 s) (execAddHistory s) := by
  refine gives_ite (fun hd => gives_next (.ends rfl rfl rfl (.inr ⟨rfl, hd⟩))) fun _ =>
    gives_ite (fun _ => ?_) fun _ => gives_refused _
  rcases addBytes_cases s.port.hbLen s.port.hbPtr s with h | ⟨h, -⟩ <;> rw [h]
  · exact gives_next (.ends rfl rfl rfl (.inl rfl))
  · exact gives_fault _

theorem answers_command (c : BitVec 2) (s : State) : Gives (Answers c s) (exec (decodeCommand c) s) := by
  have hc : c = 0 ∨ c = 1 ∨ c = 2 ∨ c = 3 := by
    revert c
    decide
  rcases hc with rfl | rfl | rfl | rfl
  · exact gives_next (.resets rfl rfl rfl rfl)
  · exact answers_execDecode s
  · exact answers_execAddHistory s
  · exact gives_next (.ends rfl rfl rfl (.inl rfl))

/-! ### Passes that run on -/

theorem Passes.runs {s t : State} (h : Passes s t) (hb : t.busy = true) : Follows s t ∧ Onward s t := by
  cases h with
  | leaves h =>
    cases h with
    | runs h hq => exact ⟨h, hq⟩
    | starves | fills | raises => cases hb
  | finishes h => cases hb.symm.trans h.busy

theorem follows_readAhead (s : State) : Follows s s.readAhead := by
  have h := (readAhead_frame s).1
  exact ⟨h.pos, h.busy, h.decoding, h.disabled⟩

theorem follows_giveBack (s : State) : Follows s s.giveBack := by
  refine ⟨?_, rfl, rfl, rfl⟩
  rw [State.Past, giveBack_toNat_nbits, State.giveBack_port]
  dsimp only
  omega

theorem readAhead_same (s : State) :
    s.readAhead.fsm = s.fsm ∧ s.readAhead.bfinal = s.bfinal ∧ s.readAhead.tab0 = s.tab0 ∧ s.readAhead.tab1 = s.tab1 := by
  rw [(readAhead_frame s).2]
  exact ⟨rfl, rfl, rfl, rfl⟩

/-- Reading ahead and giving back move the place in the stream no way back (R138). -/
theorem Onward.ofAhead {s u : State} (h : Onward s.readAhead u) : Onward s u.giveBack := by
  obtain ⟨hf, -, h0, h1⟩ := readAhead_same s
  refine ⟨h.unfinished, fun hT => ?_⟩
  have hT' : s.readAhead.TablesOk := by rw [State.TablesOk, h0, h1]; exact hT
  refine (h.nearer hT').imp (fun hp => ?_) fun hm => hf ▸ hm
  exact (((follows_readAhead s).past.trans hp).trans (follows_giveBack u).past).mono (by omega)

/-- A pass of the loop, fast or slow, after which the command runs on. -/
theorem pass_runs {s t : State} (hd : s.decoding = true) (h : pass s = .next t) (hb : t.busy = true) :
    Follows s t ∧ Onward s t := by
  rcases pass_next h with ⟨-, -, hp⟩ | ⟨-, -, -, u, hp, rfl⟩ | ⟨hd', -⟩
  · exact (passes_fetchElement s t hp).runs hb
  · obtain ⟨hu, ho⟩ := (passes_fetchElement s.readAhead u hp).runs hb
    exact ⟨((follows_readAhead s).trans hu).trans (follows_giveBack u), ho.ofAhead⟩
  · cases hd.symm.trans hd'

/-! ### The measure -/

/-- The steps a command can still make, but for the last: four for each bit of the stream, and the moves before the next read; one
more to start. -/
def State.stepsLeft (s : State) : Nat := 4 * s.streamLen + if s.decoding then s.fsm.moves else 4

theorem moves_le (f : Fsm) : f.moves ≤ 3 := by cases f <;> decide

theorem streamLen_of_past {s t : State} {n : Nat} (h : s.Past n t) (hend : t.port.srcEnd = s.port.srcEnd)
    (hs : s.port.srcPtr ≤ s.port.srcEnd) (ht : t.port.srcPtr ≤ t.port.srcEnd) : t.streamLen + n ≤ s.streamLen := by
  rw [State.Past] at h
  rw [State.streamLen, State.streamLen]
  omega

/-- Every step after which the command runs on leaves fewer. -/
theorem stepsLeft_lt {s t : State} (hcur : s.CursorsOk) (htab : s.TablesOk) (hb : s.busy = true) (h : step s = .next t)
    (ht : t.busy = true) : t.stepsLeft < s.stepsLeft := by
  have hp := pass_of_runs hb h ht
  have ha := step_advances h
  have hlen {n : Nat} (hn : s.Past n t) := streamLen_of_past hn ha.srcEnd hcur.1 (ha.cursorsOk hcur).1
  rw [State.stepsLeft, State.stepsLeft]
  cases hd : s.decoding with
  | true =>
    obtain ⟨hf, ho⟩ := pass_runs hd hp ht
    have hm := moves_le t.fsm
    have h0 := hlen hf.past
    rw [hf.decoding, hd, if_pos rfl, if_pos rfl]
    rcases ho.nearer htab with h1 | h1
    · have := hlen h1
      omega
    · omega
  | false =>
    rcases pass_next hp with ⟨hd', -⟩ | ⟨hd', -⟩ | ⟨-, hc⟩
    · cases hd.symm.trans hd'
    · cases hd.symm.trans hd'
    · cases answers_command _ s t hc with
      | resets _ _ hb' | ends _ _ hb' => cases ht.symm.trans hb'
      | enters _ =>
        have hm := moves_le s.fsm
        have hlen' : s.resume.streamLen = s.streamLen := rfl
        rw [hlen', State.resume_decoding, State.resume_fsm, if_pos rfl, if_neg (by decide)]
        omega

theorem endsWithin_idle (n : Nat) {s : State} (h : s.busy = false) : endsWithin n s = true := by
  cases n <;> simp [endsWithin, h]

theorem endsWithin_of_stepsLeft {n : Nat} {s : State} (hcur : s.CursorsOk) (htab : s.TablesOk) (hn : s.stepsLeft < n) :
    endsWithin n s = true := by
  induction n generalizing s with
  | zero => exact absurd hn (Nat.not_lt_zero _)
  | succ n ih =>
    cases hb : s.busy with
    | false => exact endsWithin_idle _ hb
    | true =>
      rw [endsWithin, if_pos hb]
      cases hs : step s with
      | next t =>
        cases ht : t.busy with
        | false => exact endsWithin_idle n ht
        | true =>
          have hlt := stepsLeft_lt hcur htab hb hs ht
          exact ih ((step_advances hs).cursorsOk hcur) ((stepKeepsTables s t hs).1 htab) (by omega)
      | fault f => rfl
      | refused r => rfl

/-- Settles O59: the bound counts the steps left, which every step lowers. -/
theorem commandsTerminate : Obligations.CommandsTerminate := by
  intro s _ hcur htab
  refine endsWithin_of_stepsLeft hcur htab ?_
  have hm := moves_le s.fsm
  rw [State.stepsLeft, State.streamLen]
  split <;> omega

end Sys2Proof.Machine
end
section
/-! PROOF. How a command ends (R198, R341, R350, R351, R372, R376): the stream is finished by the pass of the final block's end alone,
an error disables and no pass enables again, and a suspension finds its cursor at its end. -/

namespace Sys2Proof.Machine

/-- A pass leaves off as a pass of the loop, slow or fast, or as a command. -/
theorem pass_leaves {s t : State} (h : pass s = .next t) :
    (s.decoding = true ∧ s.fastReady = false ∧ Passes s t) ∨
    (s.decoding = true ∧ s.fastReady = true ∧
      ∃ u, (fetchElement s.readAhead).run = .next u ∧ Passes s.readAhead u ∧ t = u.giveBack) ∨
    (s.decoding = false ∧ Answers s.port.cmd s t) := by
  rcases pass_next h with ⟨hd, hr, hp⟩ | ⟨hd, hr, -, u, hp, ht⟩ | ⟨hd, hp⟩
  · exact .inl ⟨hd, hr, passes_fetchElement s t hp⟩
  · exact .inr (.inl ⟨hd, hr, u, hp, passes_fetchElement _ u hp, ht⟩)
  · exact .inr (.inr ⟨hd, answers_command _ s t hp⟩)

/-! ### The end of the stream (R351) -/

theorem Passes.final {s t : State} (h : Passes s t) (ht : t.fsm = .done) :
    s.fsm = .done ∨ s.fsm = .blockEnd ∧ s.bfinal = true := by
  cases h with
  | leaves h =>
    cases h with
    | runs _ hq => exact absurd ht hq.unfinished
    | starves _ _ hf | fills _ _ hf => cases (congrArg _ ht).symm.trans hf
    | raises hf _ => exact absurd ht hf
  | finishes h => exact h.final

theorem pass_final {s t : State} (h : pass s = .next t) (ht : t.fsm = .done) (hs : s.Unfinished) :
    s.fsm = .blockEnd ∧ s.bfinal = true := by
  rcases pass_leaves h with ⟨-, -, hp⟩ | ⟨-, -, u, -, hp, rfl⟩ | ⟨-, hc⟩
  · exact (hp.final ht).resolve_left hs
  · obtain ⟨hf, hb, -⟩ := readAhead_same s
    rw [← hf, ← hb]
    exact (hp.final ht).resolve_left (hf ▸ hs)
  · cases hc with
    | resets _ hf => cases ht.symm.trans hf
    | enters _ => exact absurd ht hs
    | ends hf => exact absurd (hf.symm.trans ht) hs

/-- Settles O19: only the pass of BLOCK_END leads to DONE, and only after the final block. -/
theorem doneOnlyFromFinalBlock : Obligations.DoneOnlyFromFinalBlock := by
  refine ⟨fun s => ⟨_, rfl, rfl, rfl⟩, fun s t h ht hs => ?_, fun s hd hf hfinal => ?_⟩
  · rcases step_next h with rfl | ⟨-, hp⟩ | ⟨-, u, rfl | ⟨hp, -⟩, rfl⟩
    · exact absurd ht hs
    · exact pass_final hp ht hs
    · exact absurd ht hs
    · exact pass_final hp (show u.fsm = .done from ht) hs
  · exact ⟨_, (endOfBlock_and_blockEnd.2 s hd hf).1 hfinal, rfl⟩

/-! ### Errors (R372, R376) -/

theorem Passes.error_disables {s t : State} (h : Passes s t) (hb : s.busy = true) (ht : t.busy = false)
    (he : 0x10 ≤ t.port.status.code.toNat) : t.disabled = true := by
  cases h with
  | leaves h =>
    cases h with
    | runs h _ => cases ht.symm.trans (h.busy.trans hb)
    | starves | fills => simp [Status.code] at he
    | raises => rfl
  | finishes h =>
    rw [h.status] at he
    exact absurd he (by decide)

theorem pass_error_disables {s t : State} (h : pass s = .next t) (hb : s.busy = true) (ht : t.busy = false)
    (he : 0x10 ≤ t.port.status.code.toNat) : t.disabled = true := by
  rcases pass_leaves h with ⟨-, -, hp⟩ | ⟨-, -, u, -, hp, rfl⟩ | ⟨-, hc⟩
  · exact hp.error_disables hb ht he
  · exact hp.error_disables ((follows_readAhead s).busy.trans hb) ht he
  · cases hc with
    | resets _ _ _ hst =>
      rw [hst] at he
      exact absurd he (by decide)
    | enters _ => cases ht.symm.trans hb
    | ends _ hd _ hst =>
      rcases hst with hst | ⟨-, hdis⟩
      · rw [hst] at he
        exact absurd he (by decide)
      · exact hd.trans hdis

theorem Passes.keeps_disabled {s t : State} (h : Passes s t) (hs : s.disabled = true) : t.disabled = true := by
  cases h with
  | leaves h =>
    cases h with
    | runs h _ => exact h.disabled.trans hs
    | starves hd | fills hd => exact hd.trans hs
    | raises => rfl
  | finishes h => exact h.disabled.trans hs

/-- Only RESET enables again (R376, R411). -/
theorem pass_enables {s t : State} (h : pass s = .next t) (hs : s.disabled = true) (ht : t.disabled = false) :
    s.decoding = false ∧ s.port.cmd = 0 := by
  rcases pass_leaves h with ⟨-, -, hp⟩ | ⟨-, -, u, -, hp, rfl⟩ | ⟨hd, hc⟩
  · cases ht.symm.trans (hp.keeps_disabled hs)
  · cases ht.symm.trans (hp.keeps_disabled ((follows_readAhead s).disabled.trans hs))
  · cases hc with
    | resets hc => exact ⟨hd, hc⟩
    | enters _ => cases ht.symm.trans hs
    | ends _ hd => cases ht.symm.trans (hd.trans hs)

/-- Settles O55: every error of a pass disables, and of the commands only RESET enables. -/
theorem disabledUntilReset : Obligations.DisabledUntilReset := by
  refine ⟨fun s t h hb ht he => ?_, fun s t h hs ht => ?_, fun s hdis hb hd hi hcmd => ?_⟩
  · rcases step_of_busy hb h with hp | ⟨u, -, rfl⟩
    · exact pass_error_disables hp hb ht he
    · rfl
  · rcases step_next h with rfl | ⟨-, hp⟩ | ⟨-, u, -, rfl⟩
    · cases ht.symm.trans hs
    · exact pass_enables hp hs ht
    · cases ht
  · obtain ⟨-, -, hrun⟩ := stepRunsFetched s hb hi
    rcases hcmd with hc | hc <;> rw [(hrun hd).1, hc]
    · exact if_pos hdis
    · exact if_pos hdis

/-! ### Suspensions (R341, R350) -/

/-- A suspension's cursor stands at its end, and FSM in a state that can answer it. -/
def State.SuspendedWell (t : State) : Prop :=
  (t.port.status = .shortRead → t.port.srcPtr = t.port.srcEnd ∧ t.fsm.awaitsInput = true) ∧
  (t.port.status = .shortWrite → t.port.dstPtr = t.port.dstEnd ∧ t.fsm.putsOut = true)

/-- An error is no suspension (R371). -/
theorem ne_suspension {e : Status} (he : 0x10 ≤ e.code.toNat) : e ≠ .shortRead ∧ e ≠ .shortWrite := by
  constructor <;> rintro rfl <;> exact absurd he (by decide)

theorem suspendedWell_of_status {t : State} (h : t.port.status ≠ .shortRead ∧ t.port.status ≠ .shortWrite) : t.SuspendedWell :=
  ⟨fun hr => absurd hr h.1, fun hw => absurd hw h.2⟩

/-- A pass that ends the command leaves its loop. -/
theorem Passes.stops {s t : State} (h : Passes s t) (hb : s.busy = true) (ht : t.busy = false) : t.decoding = false := by
  cases h with
  | leaves h =>
    cases h with
    | runs h _ => cases ht.symm.trans (h.busy.trans hb)
    | starves | fills | raises => rfl
  | finishes h => exact h.decoding

theorem Passes.suspendedWell {s t : State} (h : Passes s t) (hb : s.busy = true) (ht : t.busy = false) : t.SuspendedWell := by
  cases h with
  | leaves h =>
    cases h with
    | runs h _ => cases ht.symm.trans (h.busy.trans hb)
    | starves _ he hf => exact ⟨fun _ => ⟨he, hf⟩, nofun⟩
    | fills _ he hf => exact ⟨nofun, fun _ => ⟨he, hf⟩⟩
    | raises _ he => exact suspendedWell_of_status (ne_suspension he)
  | finishes h => exact suspendedWell_of_status (by simp [h.status])

/-- A read of at most `n` bits that is not starved. -/
def Res.Fed {α : Type} (n : Nat) (s : State) : Res α → Prop
  | .val _ t => s.streamLen ≤ t.streamLen + n
  | .stop o => NotEnding .shortRead o

/-- A read that looks for `n` bits at most finds them where the stream has as many (R131, R132). -/
theorem ReadsTo.fed {α : Type} {found : State → Option (Res α)} {n : Nat} (hfound : ∀ s r, found s = some r → r.Fed n s)
    (hneed : ∀ s, found s = none → s.nbits.toNat < n) {s : State} {r : Res α} (h : ReadsTo found s r)
    (hs : s.port.srcPtr ≤ s.port.srcEnd) (hn : n ≤ s.streamLen) : r.Fed n s := by
  induction h with
  | done h => exact hfound _ _ h
  | @stop s o h hr =>
    rcases refill_cases s with ⟨-, hc⟩ | ⟨-, he, -⟩ | ⟨-, -, -, hc⟩ | ⟨-, -, -, hc⟩
    · cases hc.symm.trans hr
      exact notEnding_finish (by simp)
    · have := hneed s h
      rw [State.streamLen] at hn
      omega
    · cases hc.symm.trans hr
    · cases hc.symm.trans hr
      exact fun _ hx => nomatch hx
  | @more s t r _ hr _ ih =>
    have hf := bitFrame_of_refill hr
    have hend := hf.still.srcEnd
    obtain ⟨hn24, rfl⟩ := eq_refilled_of_refill hr
    have hin := hf.inside hs
    have hlen : s.refilled.streamLen = s.streamLen := streamLen_refilled hn24 hin
    have hfed := ih (by rw [hend]; exact hin) (hlen ▸ hn)
    cases r with
    | val a u => exact hlen.ge.trans hfed
    | stop o => exact hfed

theorem take_fed {n : Nat} (hn : n ≤ 32) {s : State} (hs : s.port.srcPtr ≤ s.port.srcEnd) (hlen : n ≤ s.streamLen) :
    (take n s).Fed n s := by
  refine ReadsTo.fed (fun t r h => ?_) (fun t h => ?_) (take_readsTo hn s) hs hlen <;> unfold takeFound at h <;> split at h
  · cases h
  next hle =>
    cases h
    rw [Res.Fed, streamLen_consume (Nat.not_lt.mp hle)]
    omega
  next hlt => exact hlt
  · cases h

theorem decodeSym_fed (tab : Table) {s : State} (hs : s.port.srcPtr ≤ s.port.srcEnd) (hlen : 24 ≤ s.streamLen) :
    (decodeSym tab s).Fed 24 s := by
  refine ReadsTo.fed (fun t r h => ?_) (fun t h => ?_) (decodeSym_readsTo tab s) hs hlen
  · cases r with
    | stop o => exact symFound_notEnding tab t o h
    | val y u =>
      unfold symFound at h
      split at h
      · cases h
      split at h
      next hle =>
        cases h
        have h24 := lookup_le tab t.bits
        rw [Res.Fed, streamLen_consume hle]
        omega
      next => cases h
  · have h24 := lookup_le tab t.bits
    unfold symFound at h
    split at h
    · cases h
    split at h
    · cases h
    · omega

/-- A literal/length symbol with the longest extra field there is still in the stream is not starved (R264). -/
theorem llRest_notStarved (y : Symbol) {s : State} (hb : s.busy = true) (hs : s.port.srcPtr ≤ s.port.srcEnd)
    (hlen : 7 ≤ s.streamLen) : NotEnding .shortRead (llRest y s) := by
  unfold llRest
  split
  · exact notEnding_litOut (s := { s with loc := _, fsm := .litOut }) hb
  · exact notEnding_busy hb
  · generalize hl : s.latchLen ((entryPayload y.entry).setWidth 9) ((entryNX y.entry).setWidth 3) = l
    have hl' : l.busy = true ∧ l.port.srcPtr ≤ l.port.srcEnd ∧ l.streamLen = s.streamLen := by
      subst hl
      exact ⟨hb, hs, rfl⟩
    obtain ⟨hlb, hls, hll⟩ := hl'
    have hfed := take_fed (n := ((entryNX y.entry).setWidth 3).toNat) (by omega) hls (by omega)
    cases ht : take ((entryNX y.entry).setWidth 3).toNat l with
    | val x u =>
      have hu := (take_frame (by omega) l).1 x u ht
      exact notEnding_busy ((congrArg State.busy hu.same).trans hlb)
    | stop o =>
      rw [ht] at hfed
      exact hfed
  · exact notEnding_finish (by simp)
  · exact notEnding_finish (by simp)

/-- A pass of LL_SYM on a stream long enough for any symbol is not starved. -/
theorem fetchLL_notStarved {s : State} (hb : s.busy = true) (hs : s.port.srcPtr ≤ s.port.srcEnd) (hlen : 31 ≤ s.streamLen) :
    NotEnding .shortRead (fetchLL s).run := by
  have hfed := decodeSym_fed s.tab0 hs (by omega)
  rw [run_fetchLL]
  cases hr : decodeSym s.tab0 s with
  | val y t =>
    rw [hr, Res.Fed] at hfed
    have ht := (decodeSym_frame s.tab0 s).1 y t hr
    refine llRest_notStarved y ((congrArg State.busy ht.same).trans hb) ?_ (by omega)
    rw [ht.still.srcEnd]
    exact ht.inside hs
  | stop o =>
    rw [hr] at hfed
    exact hfed

theorem streamLen_readAheadLoop (k : Nat) (s : State) : (readAheadLoop k s).streamLen = s.streamLen := by
  induction k generalizing s with
  | zero => rfl
  | succ k ih =>
    rw [readAheadLoop]
    split
    next h => rw [ih, streamLen_refilled h.1 h.2.1]
    next => rfl

/-- With the thresholds of R270 a fast pass is not starved. -/
theorem fastPass_notStarved {s : State} (hb : s.busy = true) (hthr : s.par.ThresholdsOk) (hr : s.fastReady = true) :
    NotEnding .shortRead (fetchElement s.readAhead).run := by
  obtain ⟨h6, -⟩ := hthr
  simp only [State.fastReady, Bool.and_eq_true, decide_eq_true_eq] at hr
  obtain ⟨⟨⟨-, hf⟩, hsrc⟩, -⟩ := hr
  have ha := advances_readAheadLoop 4 s
  have hlen : s.readAhead.streamLen = s.streamLen := streamLen_readAheadLoop 4 s
  rw [fetchElement, (readAhead_same s).1, hf]
  refine fetchLL_notStarved ((follows_readAhead s).busy.trans hb) ?_ ?_
  · rw [State.readAhead, ha.srcEnd]
    exact ha.src (by omega)
  · rw [hlen, State.streamLen]
    omega

theorem pass_suspendedWell {s t : State} (hthr : s.par.ThresholdsOk) (h : pass s = .next t) (hb : s.busy = true)
    (ht : t.busy = false) : t.SuspendedWell := by
  rcases pass_leaves h with ⟨-, -, hp⟩ | ⟨-, hr, u, hu, hp, rfl⟩ | ⟨-, hc⟩
  · exact hp.suspendedWell hb ht
  · have hbusy := (follows_readAhead s).busy.trans hb
    have hw : u.SuspendedWell := hp.suspendedWell hbusy ht
    have hnot := fastPass_notStarved hb hthr hr u hu
    exact ⟨fun hst => absurd ⟨ht, hp.stops hbusy ht, hst⟩ hnot, hw.2⟩
  · cases hc with
    | resets _ _ _ hst => exact suspendedWell_of_status (by simp [hst])
    | enters _ => cases ht.symm.trans hb
    | ends _ _ _ hst => exact suspendedWell_of_status (by rcases hst with hst | ⟨hst, -⟩ <;> simp [hst])

theorem fsm_of_awaitsInput {f : Fsm} (h : f.awaitsInput = true) :
    f ≠ .litOut ∧ f ≠ .copy ∧ f ≠ .fixedInit ∧ f ≠ .dynBuild ∧ f ≠ .blockEnd ∧ f ≠ .done := by
  revert h
  cases f <;> decide

theorem fsm_of_putsOut {f : Fsm} (h : f.putsOut = true) : f = .storedCopy ∨ f = .litOut ∨ f = .copy := by
  revert h
  cases f <;> decide

/-- Settles O56: a pass is starved where its read stands at the end of the input, which a fast pass never reaches, and a full output
is found where a byte waits. -/
theorem suspensions : Obligations.Suspensions := by
  intro s t hthr h hb ht
  have hw : t.SuspendedWell := by
    rcases step_of_busy hb h with hp | ⟨u, -, rfl⟩
    · exact pass_suspendedWell hthr hp hb ht
    · exact suspendedWell_of_status ⟨nofun, nofun⟩
  obtain ⟨hread, hwrite⟩ := hw
  exact ⟨fun hst => (hread hst).imp_right fsm_of_awaitsInput, fun hst => (hwrite hst).imp_right fsm_of_putsOut⟩

end Sys2Proof.Machine
end
section
/-! PROOF. An interleaved command (R332, R377, log 6): a pass inside a state's loop does not look whether a report is owed, and owes it
still where it runs on. -/

namespace Sys2Proof.Machine

/-- The same engine, owing a report for as long as it is busy. -/
def State.owing (s : State) : State := { s with interleaved := s.busy }

theorem unread_owing : Unread State.owing := ⟨fun _ => rfl, fun _ => rfl, fun _ _ => rfl, fun _ _ => rfl⟩

theorem inputExhausted_owing (s : State) : s.owing.inputExhausted = s.inputExhausted.owing := by
  rw [State.inputExhausted, State.inputExhausted, apply_ite State.owing]
  rfl

theorem refill_owing (s : State) : refill s.owing = (refill s).map State.owing :=
  ite_both (R := fun r r' : Res Unit => r' = r.map State.owing) .rfl (fun _ => rfl) fun _ =>
    ite_both (R := fun r r' : Res Unit => r' = r.map State.owing) .rfl
      (fun _ => congrArg (fun t => Res.stop (.next t)) (inputExhausted_owing s)) fun _ =>
        ite_both (R := fun r r' : Res Unit => r' = r.map State.owing) .rfl (fun _ => rfl) fun _ => rfl

theorem take_owing {n : Nat} (hn : n ≤ 32) (s : State) : take n s.owing = (take n s).map State.owing :=
  (take_readsTo hn _).unique
    ((take_readsTo hn s).map (unread_owing.takeFound n) (P := fun _ => True) (fun _ _ _ _ => trivial)
      (fun t _ => refill_owing t) trivial)

theorem clearTail_owing (s : State) (ks : List Nat) : s.owing.clearTail ks = (s.clearTail ks).owing := by
  induction ks generalizing s with
  | nil => rfl
  | cons k ks ih => exact ih (s.setLen k 0)

theorem buildTab0_owing {A : Alphabet} {lens : List Nat} {s : State} {k : State → Result}
    (hk : ∀ t, k (State.owing t) = mapNext State.owing (k t)) :
    buildTab0 A lens s.owing k = mapNext State.owing (buildTab0 A lens s k) := by
  unfold buildTab0
  rw [show s.owing.par = s.par from rfl]
  cases build s.par A lens with
  | ok tab => exact hk { s with tab0 := tab }
  | error e => rfl

theorem cllDone_owing (s : State) : cllDone s.owing = mapNext State.owing (cllDone s) := by
  unfold cllDone
  dsimp only
  rw [show s.owing.loc = s.loc from rfl, clearTail_owing]
  exact buildTab0_owing fun _ => rfl

theorem execStoredByte_owing (b : Byte) (s : State) : execStoredByte b s.owing = mapNext State.owing (execStoredByte b s) :=
  ite_both (R := fun o o' : Result => o' = mapNext State.owing o) .rfl (fun _ => rfl) fun _ =>
    ite_both (R := fun o o' : Result => andThen o' (fun t => .next { t with loc := { t.loc with rem := t.loc.rem - 1 } }) =
      mapNext State.owing (andThen o fun t => .next { t with loc := { t.loc with rem := t.loc.rem - 1 } })) .rfl
      (fun _ => rfl) fun _ => rfl

/-- The passes of the two states that have their own loop. -/
theorem run_owing {s : State} (hf : s.fsm = .dynCll ∨ s.fsm = .storedCopy) :
    (fetchElement s.owing).run = mapNext State.owing (fetchElement s).run := by
  rcases hf with hf | hf
  · have hf' : s.owing.fsm = .dynCll := hf
    simp only [fetchElement, hf, hf']
    refine ite_both (R := fun F F' : Fetched => F'.run = mapNext State.owing F.run) .rfl (fun _ => ?_) fun _ => cllDone_owing s
    rw [run_fetch, run_fetch, take_owing (by omega)]
    cases take 3 s <;> rfl
  · have hf' : s.owing.fsm = .storedCopy := hf
    simp only [fetchElement, hf, hf']
    exact ite_both (R := fun F F' : Fetched => F'.run = mapNext State.owing F.run) .rfl (fun _ => rfl) fun _ =>
      ite_both (R := fun F F' : Fetched => F'.run = mapNext State.owing F.run) .rfl (fun _ => rfl) fun _ =>
        ite_both (R := fun F F' : Fetched => F'.run = mapNext State.owing F.run) .rfl
          (fun _ => congrArg Host.Outcome.next (inputExhausted_owing s)) fun _ =>
            ite_both (R := fun F F' : Fetched => F'.run = mapNext State.owing F.run) .rfl
              (fun _ => execStoredByte_owing _
                { s with inLoop := true, port := { s.port with srcPtr := s.port.srcPtr + 1 } }) fun _ => rfl

/-- A pass that owes a report, as its step reports it. -/
theorem settleOwed_owing (u : State) :
    settleOwed true (.next u.owing) =
      .next (if u.busy = true then { u with interleaved := true } else u.raise .interleaved) := by
  cases hb : u.busy with
  | true =>
    rw [settleOwed_busy (t := u.owing) hb, if_pos rfl, State.owing, hb]
  | false =>
    rw [settleOwed_ended (t := u.owing) hb, if_neg (by decide)]
    rfl

theorem pass_of_notLLSym {s : State} (hd : s.decoding = true) (hf : s.fsm ≠ .llSym) : pass s = (fetchElement s).run := by
  rcases pass_decoding hd with ⟨hp, -⟩ | ⟨-, -, h⟩
  · exact hp
  · exact absurd h hf

/-- Settles O11: at a state boundary the step is the report; inside a loop it is the pass, which owes the report as before. -/
theorem interleavedCommand : Obligations.InterleavedCommand := by
  intro s hb
  refine ⟨fun v => by rw [hostWrite, if_pos hb, if_pos rfl], fun c => if_pos hb, fun hl => ?_, fun hctl hl u hu => ?_⟩
  · exact step_interleaved (s := { s with interleaved := true }) hb (by simp [State.reportDue, hl])
  · obtain ⟨-, -, hloop⟩ := hctl
    obtain ⟨hd, hf⟩ := hloop hl
    have hne : s.fsm ≠ .llSym := by rcases hf with hf | hf <;> simp [hf]
    have howing : State.owing { s with interleaved := false } = { s with interleaved := true } := by rw [State.owing, hb]
    rw [step_of_notLLSym (s := { s with interleaved := false }) ⟨hb, hd, rfl⟩ hne] at hu
    rw [step_of_owed (s := { s with interleaved := true }) hb rfl hl,
      pass_of_notLLSym (s := { s with interleaved := true }) hd hne, ← howing, run_owing (s := { s with interleaved := false }) hf,
      hu]
    exact settleOwed_owing u

end Sys2Proof.Machine
end
section
/-! PROOF. Reset, idling and the two traps (R40, R41, R49, R373 to R375, R385, R411, R413): after reset nothing is held, no state asks
for a counter and every table entry is EMPTY; beside CMD the host reaches an idle engine's operands and its memory alone. -/

namespace Sys2Proof.Machine

/-! ### The traps and RESET -/

/-- Settles O5: both traps are the end of the command, and an error's has DISABLED with it (R373, R375). -/
theorem trapEffects : Obligations.TrapEffects := fun _ _ => ⟨rfl, rfl⟩

/-- Settles O3: what RESET answers is the state before it with other fields written (R411). -/
theorem resetFrame : Obligations.ResetFrame := by
  intro s t h
  have ht : _ = t := Host.Outcome.next.inj h
  subst ht
  exact ⟨rfl, rfl, rfl⟩

/-! ### An idle engine's host -/

/-- A write beside CMD that is taken puts an operand in the port. -/
theorem hostWrite_operand {s t : State} (hb : s.busy = false) {n v : Nat} (hn : n ≠ 0) (h : hostWrite n v s = .next t) :
    ∃ p, writeOperand s.par.addrW n v s.port = some p ∧ t = { s with port := p } := by
  cases hp : writeOperand s.par.addrW n v s.port with
  | none =>
    rw [hostWrite, if_neg (by simp [hb]), if_neg hn, hp] at h
    cases h
  | some p =>
    rw [hostWrite_of_idle hb hn hp] at h
    exact ⟨p, rfl, (Host.Outcome.next.inj h).symm⟩

/-- A store that is taken puts its byte in memory, where the address exists and the engine is idle. -/
theorem hostStore_byte {s t : State} {a : Nat} {v : Byte} (h : hostStore a v s = .next t) :
    s.busy = false ∧ s.inSpace a = true ∧ t = { s with mem := s.mem.write a v } := by
  unfold hostStore at h
  split at h
  · cases h
  · next hb =>
    split at h
    · next ha => exact ⟨Bool.eq_false_of_not_eq_true hb, ha, (Host.Outcome.next.inj h).symm⟩
    · cases h

/-- Settles O4: an idle step is none, and of all the host can write only CMD reaches BUSY. -/
theorem idleHoldsEverything : Obligations.IdleHoldsEverything := by
  intro s hb
  refine ⟨step_idle hb, fun n v t hn h => ?_, fun a v t h => ?_, fun v _ => hostWrite_cmd hb v⟩
  · obtain ⟨p, -, rfl⟩ := hostWrite_operand hb hn h
    exact hb
  · obtain ⟨-, -, rfl⟩ := hostStore_byte h
    exact hb

/-! ### The engine after reset -/

/-- Every entry of a zeroed table is EMPTY, and so is what is read past the arena (logs 3 and 8). -/
theorem entryKind_zeroTable (i : Nat) : entryKind (readTable (Vector.replicate 1024 0) i) = .empty := by
  have hz : readTable (Vector.replicate 1024 0) i = 0 := by by_cases h : i < 1024 <;> simp [readTable, h]
  rw [hz]
  decide

theorem zeroTable_no_base (i : Nat) : entryKind (readTable (Vector.replicate 1024 0) i) ≠ .base := by
  rw [entryKind_zeroTable]
  decide

/-- Nothing is held, the window is empty, and none of the model's own command bits is set (R35, R135). -/
theorem inv_resetWith (p : Params) : (State.resetWith p).Inv := by
  have hacc : (State.resetWith p).AccOk := ⟨Nat.zero_lt_one, Nat.zero_le 32⟩
  have hwin : (State.resetWith p).WindowOk := ⟨Nat.zero_le 32768, fun _ => rfl⟩
  have hctl : (State.resetWith p).ControlOk := ⟨nofun, nofun, nofun⟩
  exact ⟨hacc, rfl, hwin, hctl⟩

/-- Every address and length register is 0, which fits any width (R40). -/
theorem portOk_resetWith (p : Params) : (State.resetWith p).PortOk := by
  have h : 0 < 2 ^ p.addrW := Nat.two_pow_pos _
  exact ⟨h, h, h, h, h, h, h, h, h, h⟩

theorem tablesOk_resetWith (p : Params) : (State.resetWith p).TablesOk :=
  ⟨fun i h => absurd (entryKind_zeroTable i) h, fun i h => absurd (entryKind_zeroTable i) h⟩

theorem entriesOk_resetWith (p : Params) : (State.resetWith p).EntriesOk :=
  ⟨fun i h => absurd h (zeroTable_no_base i), fun i h => absurd h (zeroTable_no_base i)⟩

/-- Settles O1: the cursors are both 0, HDR asks for no counter, and the other invariants are those above. -/
theorem resetMeetsInvariants : Obligations.ResetMeetsInvariants := fun p =>
  ⟨inv_resetWith p, ⟨Nat.le_refl 0, Nat.le_refl 0⟩, portOk_resetWith p, countersOk_of_free rfl, tablesOk_resetWith p,
    entriesOk_resetWith p⟩

end Sys2Proof.Machine
end
